-- ==== Sys2Proof/Word.lean ====
section
/-! DEFINITION. The two word types of the hardware (00_scope.md R6, R8). -/

namespace Sys2Proof

/-- `u8`: a register, a memory cell, an opcode byte (R6, R8). -/
abbrev Byte := BitVec 8

/-- `u16`: a register pair, SP, PC, an address (R6, R8).  Its `+` and `-` are modulo 2^16 (R8, log 6). -/
abbrev Word := BitVec 16

end Sys2Proof
end

