-- ==== Sys2Proof/Machine/Bits.lean ====
section
/-! DEFINITION. Slices, concatenation and extension of words: the notation of 00_scope.md R8, and the
fields of an opcode byte (30_encoding.md R52). -/

namespace Sys2Proof

/-- `{hi, lo}` (R8). -/
def pair (hi lo : Byte) : Word := hi ++ lo

/-- `v[15:8]`. -/
def hiByte (v : Word) : Byte := v.extractLsb' 8 8

/-- `v[7:0]`. -/
def loByte (v : Word) : Byte := v.extractLsb' 0 8

/-- `zext_16(v)` (R8). -/
def zext16 (v : Byte) : Word := v.setWidth 16

/-- `sext_16(v)`: bit 7 copied into bits 15 to 8 (R8). -/
def sext16 (v : Byte) : Word := v.signExtend 16

/-- `byte0[7:4]`: the row of the opcode map (R60). -/
def hiNibble (v : Byte) : BitVec 4 := v.extractLsb' 4 4

/-- `byte0[3:0]`: the column of the opcode map (R60). -/
def loNibble (v : Byte) : BitVec 4 := v.extractLsb' 0 4

/-- `x = byte[7:6]` (R52). -/
def fieldX (v : Byte) : BitVec 2 := v.extractLsb' 6 2

/-- `y = byte[5:3]` (R52). -/
def fieldY (v : Byte) : BitVec 3 := v.extractLsb' 3 3

/-- `z = byte[2:0]` (R52). -/
def fieldZ (v : Byte) : BitVec 3 := v.extractLsb' 0 3

/-- A byte from its fields `x`, `y`, `z` (R52). -/
def byteXYZ (x : BitVec 2) (y z : BitVec 3) : Byte := x ++ y ++ z

/-- A byte from its fields `x`, `p`, `q`, `z` (R52: `y = {p, q}`). -/
def byteXPQZ (x p : BitVec 2) (q : BitVec 1) (z : BitVec 3) : Byte := x ++ p ++ q ++ z

end Sys2Proof
end

