-- ==== Sys2Proof/Config.lean ====
section
/-! DEFINITION. What the spec leaves to the launch of the machine, at the values `State.reset` uses
(00_scope.md R7, 10_state.md R24).  The spec leaves all of them open: log 4 and log 5.  The parameters
themselves are arguments of `Machine.powerOn`, which takes any value for each. -/

namespace Sys2Proof.Config

/-- What a memory cell reads as when the memory list has no entry for it.
DESIGN CHOICE, unsafe (log 5): R24 leaves MEM_INIT open. -/
def unlistedByte : Byte := 0x00

/-- RESET_REGS for A, B, C, D, E, H, L in `State.reset`.  DESIGN CHOICE, unsafe (log 4). -/
def resetByte : Byte := 0x00

/-- RESET_REGS for F in `State.reset`: bits 7 to 4 DESIGN CHOICE, unsafe (log 4); bits 3 to 0 are 0 by R24. -/
def resetF : Byte := 0x00

/-- RESET_REGS for SP in `State.reset`.  DESIGN CHOICE, unsafe (log 4). -/
def resetSP : Word := 0x0000

/-- PC after reset (R24). -/
def resetPC : Word := 0x0000

end Sys2Proof.Config
end

