-- ==== Sys2Proof/Syntax.lean ====
section
/-! DEFINITION. The syntax: register names, operand codes, the vocabulary of the instruction catalog
(30_encoding.md R58, R59), and `Instr`, one constructor per row of spec/opcode_table.json, each with its
assembler spelling (R66). -/

namespace Sys2Proof

/-- The eight 8-bit registers (10_state.md R10). -/
inductive Reg8 where
  | A | F | B | C | D | E | H | L
  deriving DecidableEq, Repr

/-- The names `r16[P]` ranges over (10_state.md R13). -/
inductive Reg16 where
  | AF | BC | DE | HL | SP | PC
  deriving DecidableEq, Repr

/-- The four condition flags (10_state.md R14). -/
inductive Flag where
  | Z | N | H | C
  deriving DecidableEq, Repr

/-- The condition codes (30_encoding.md R55). -/
inductive Cond where
  | NZ | Z | NC | C
  deriving DecidableEq, Repr

/-- An 8-bit operand class `r8`: a register an instruction can name (30_encoding.md R66; `F` has no code, R53). -/
inductive Gpr where
  | B | C | D | E | H | L | A
  deriving DecidableEq, Repr

/-- The register a `Gpr` names. -/
def Gpr.reg : Gpr → Reg8
  | .B => .B | .C => .C | .D => .D | .E => .E | .H => .H | .L => .L | .A => .A

/-- The 8-bit operand codes 0 to 7: code 6 is the byte at `HL`, not a register (30_encoding.md R53). -/
inductive Operand8 where
  | B | C | D | E | H | L | mHL | A
  deriving DecidableEq, Repr

/-- The `r16` table of 30_encoding.md R54 (LD r16,n16). -/
inductive PairSP where
  | BC | DE | HL | SP
  deriving DecidableEq, Repr

/-- The 16-bit register a `PairSP` names. -/
def PairSP.reg : PairSP → Reg16
  | .BC => .BC | .DE => .DE | .HL => .HL | .SP => .SP

/-- The `r16stk` table of 30_encoding.md R54 (PUSH). -/
inductive PairAF where
  | BC | DE | HL | AF
  deriving DecidableEq, Repr

/-- The 16-bit register a `PairAF` names. -/
def PairAF.reg : PairAF → Reg16
  | .BC => .BC | .DE => .DE | .HL => .HL | .AF => .AF

/-- The catalog's mnemonic tags (30_encoding.md R58): the semantic families, `ILLEGAL`, `PREFIX`, and the tags
of the instructions the executor has no case for (R61, R63). -/
inductive Mnemonic where
  | NOP | LD | JR | JP | CALL | PUSH | RST | LDH | RLC | RRC
  | RL | RR | SLA | SRA | SWAP | SRL | BIT | RES | SET | STOP
  | ADD | ADC | SUB | SBC | AND | XOR | OR | CP | INC | DEC
  | RLCA | RRCA | RLA | RRA | DAA | CPL | SCF | CCF | HALT | RET
  | POP | RETI | DI | EI | ILLEGAL | PREFIX
  deriving DecidableEq, Repr

/-- The families the executor has a case for (40_step_decode_resolve.md R71 phase 3). -/
def Mnemonic.modeled (m : Mnemonic) : Bool :=
  m == .LD || m == .LDH || m == .JP || m == .JR || m == .CALL || m == .RST || m == .PUSH || m == .NOP

/-- The `adjust` modifier: what happens to `HL` after the access (30_encoding.md R59). -/
inductive Adjust where
  | none | inc | dec
  deriving DecidableEq, Repr

/-- The closed set of operand kinds (30_encoding.md R59); `off` is the immediate's offset from `base`. -/
inductive OperandKind where
  | reg8 (r : Reg8) | reg16 (p : Reg16) | imm8 (off : Nat) | imm16 (off : Nat) | rel8 (off : Nat)
  | bit3 (b : BitVec 3) | cond (cc : Cond) | vec (v : Word)
  deriving DecidableEq, Repr

/-- An operand specification: a kind and the two modifiers (30_encoding.md R59). -/
structure OperandSpec where
  kind   : OperandKind
  deref  : Bool
  adjust : Adjust
  deriving DecidableEq, Repr

/-- What a flag-effect specification says of one flag (30_encoding.md R58). -/
inductive FlagEffect where
  | unaffected | set | cleared | computed
  deriving DecidableEq, Repr

/-- A flag-effect specification: one entry per flag (30_encoding.md R58). -/
structure FlagSpec where
  z : FlagEffect
  n : FlagEffect
  h : FlagEffect
  c : FlagEffect
  deriving DecidableEq, Repr

/-- One catalog entry, `InstructionSpec` (30_encoding.md R58). -/
structure InstructionSpec where
  mnemonic : Mnemonic
  length   : Nat
  cycles   : List Nat
  operands : List OperandSpec
  flags    : Option FlagSpec
  deriving DecidableEq, Repr

/-- The instruction catalog: a total function of the key `(prefixed, opcode)` (00_scope.md R7, 30_encoding.md R58). -/
abbrev Catalog := Bool → Byte → InstructionSpec

/-- The instructions: one constructor per row of spec/opcode_table.json, the executed rows first, each with the
immediates of its format (30_encoding.md R51).  `m` before an operand is the spelling's parentheses, `i` and `d`
after `HL` its `+` and `-`.  An unimplemented instruction carries its immediate as syntax only: the machine
never reads it (log 17).  `prefixCB` is the catalog entry at key `(false, 0xCB)`, which no bytes decode to (R64). -/
inductive Instr where
  | nop
  | ld_BC_n16 (n16 : Word)
  | ld_mBC_A
  | ld_B_n8 (n8 : Byte)
  | ld_ma16_SP (a16 : Word)
  | ld_A_mBC
  | ld_C_n8 (n8 : Byte)
  | ld_DE_n16 (n16 : Word)
  | ld_mDE_A
  | ld_D_n8 (n8 : Byte)
  | jr_e8 (e8 : Byte)
  | ld_A_mDE
  | ld_E_n8 (n8 : Byte)
  | jr_NZ_e8 (e8 : Byte)
  | ld_HL_n16 (n16 : Word)
  | ld_mHLi_A
  | ld_H_n8 (n8 : Byte)
  | jr_Z_e8 (e8 : Byte)
  | ld_A_mHLi
  | ld_L_n8 (n8 : Byte)
  | jr_NC_e8 (e8 : Byte)
  | ld_SP_n16 (n16 : Word)
  | ld_mHLd_A
  | ld_mHL_n8 (n8 : Byte)
  | jr_C_e8 (e8 : Byte)
  | ld_A_mHLd
  | ld_A_n8 (n8 : Byte)
  | ld_B_B
  | ld_B_C
  | ld_B_D
  | ld_B_E
  | ld_B_H
  | ld_B_L
  | ld_B_mHL
  | ld_B_A
  | ld_C_B
  | ld_C_C
  | ld_C_D
  | ld_C_E
  | ld_C_H
  | ld_C_L
  | ld_C_mHL
  | ld_C_A
  | ld_D_B
  | ld_D_C
  | ld_D_D
  | ld_D_E
  | ld_D_H
  | ld_D_L
  | ld_D_mHL
  | ld_D_A
  | ld_E_B
  | ld_E_C
  | ld_E_D
  | ld_E_E
  | ld_E_H
  | ld_E_L
  | ld_E_mHL
  | ld_E_A
  | ld_H_B
  | ld_H_C
  | ld_H_D
  | ld_H_E
  | ld_H_H
  | ld_H_L
  | ld_H_mHL
  | ld_H_A
  | ld_L_B
  | ld_L_C
  | ld_L_D
  | ld_L_E
  | ld_L_H
  | ld_L_L
  | ld_L_mHL
  | ld_L_A
  | ld_mHL_B
  | ld_mHL_C
  | ld_mHL_D
  | ld_mHL_E
  | ld_mHL_H
  | ld_mHL_L
  | ld_mHL_A
  | ld_A_B
  | ld_A_C
  | ld_A_D
  | ld_A_E
  | ld_A_H
  | ld_A_L
  | ld_A_mHL
  | ld_A_A
  | jp_NZ_a16 (a16 : Word)
  | jp_a16 (a16 : Word)
  | call_NZ_a16 (a16 : Word)
  | push_BC
  | rst_00
  | jp_Z_a16 (a16 : Word)
  | call_Z_a16 (a16 : Word)
  | call_a16 (a16 : Word)
  | rst_08
  | jp_NC_a16 (a16 : Word)
  | call_NC_a16 (a16 : Word)
  | push_DE
  | rst_10
  | jp_C_a16 (a16 : Word)
  | call_C_a16 (a16 : Word)
  | rst_18
  | ldh_ma8_A (a8 : Byte)
  | ldh_mC_A
  | push_HL
  | rst_20
  | jp_HL
  | ld_ma16_A (a16 : Word)
  | rst_28
  | ldh_A_ma8 (a8 : Byte)
  | ldh_A_mC
  | push_AF
  | rst_30
  | ld_HL_SPe8 (e8 : Byte)
  | ld_SP_HL
  | ld_A_ma16 (a16 : Word)
  | rst_38
  | rlc (r8 : Operand8)
  | rrc (r8 : Operand8)
  | rl (r8 : Operand8)
  | rr (r8 : Operand8)
  | sla (r8 : Operand8)
  | sra (r8 : Operand8)
  | swap (r8 : Operand8)
  | srl (r8 : Operand8)
  | bit (b3 : BitVec 3) (r8 : Operand8)
  | res (b3 : BitVec 3) (r8 : Operand8)
  | set (b3 : BitVec 3) (r8 : Operand8)
  | stop_n8 (n8 : Byte)
  | add_A_n8 (n8 : Byte)
  | adc_A_n8 (n8 : Byte)
  | sub_A_n8 (n8 : Byte)
  | sbc_A_n8 (n8 : Byte)
  | and_A_n8 (n8 : Byte)
  | add_SP_e8 (e8 : Byte)
  | xor_A_n8 (n8 : Byte)
  | or_A_n8 (n8 : Byte)
  | cp_A_n8 (n8 : Byte)
  | inc_BC
  | inc_B
  | dec_B
  | rlca
  | add_HL_BC
  | dec_BC
  | inc_C
  | dec_C
  | rrca
  | inc_DE
  | inc_D
  | dec_D
  | rla
  | add_HL_DE
  | dec_DE
  | inc_E
  | dec_E
  | rra
  | inc_HL
  | inc_H
  | dec_H
  | daa
  | add_HL_HL
  | dec_HL
  | inc_L
  | dec_L
  | cpl
  | inc_SP
  | inc_mHL
  | dec_mHL
  | scf
  | add_HL_SP
  | dec_SP
  | inc_A
  | dec_A
  | ccf
  | halt
  | add_A_B
  | add_A_C
  | add_A_D
  | add_A_E
  | add_A_H
  | add_A_L
  | add_A_mHL
  | add_A_A
  | adc_A_B
  | adc_A_C
  | adc_A_D
  | adc_A_E
  | adc_A_H
  | adc_A_L
  | adc_A_mHL
  | adc_A_A
  | sub_A_B
  | sub_A_C
  | sub_A_D
  | sub_A_E
  | sub_A_H
  | sub_A_L
  | sub_A_mHL
  | sub_A_A
  | sbc_A_B
  | sbc_A_C
  | sbc_A_D
  | sbc_A_E
  | sbc_A_H
  | sbc_A_L
  | sbc_A_mHL
  | sbc_A_A
  | and_A_B
  | and_A_C
  | and_A_D
  | and_A_E
  | and_A_H
  | and_A_L
  | and_A_mHL
  | and_A_A
  | xor_A_B
  | xor_A_C
  | xor_A_D
  | xor_A_E
  | xor_A_H
  | xor_A_L
  | xor_A_mHL
  | xor_A_A
  | or_A_B
  | or_A_C
  | or_A_D
  | or_A_E
  | or_A_H
  | or_A_L
  | or_A_mHL
  | or_A_A
  | cp_A_B
  | cp_A_C
  | cp_A_D
  | cp_A_E
  | cp_A_H
  | cp_A_L
  | cp_A_mHL
  | cp_A_A
  | ret_NZ
  | pop_BC
  | ret_Z
  | ret
  | ret_NC
  | pop_DE
  | ret_C
  | reti
  | pop_HL
  | pop_AF
  | di
  | ei
  | illegal_D3
  | illegal_DB
  | illegal_DD
  | illegal_E3
  | illegal_E4
  | illegal_EB
  | illegal_EC
  | illegal_ED
  | illegal_F4
  | illegal_FC
  | illegal_FD
  | prefixCB
  deriving DecidableEq, Repr

/-- The assembler spelling of an instruction's row, operand classes left as they stand (30_encoding.md R66). -/
def Instr.spelling (i : Instr) : String :=
  match i with
  | .nop => "NOP"
  | .ld_BC_n16 _ => "LD BC,n16"
  | .ld_mBC_A => "LD (BC),A"
  | .ld_B_n8 _ => "LD B,n8"
  | .ld_ma16_SP _ => "LD (a16),SP"
  | .ld_A_mBC => "LD A,(BC)"
  | .ld_C_n8 _ => "LD C,n8"
  | .ld_DE_n16 _ => "LD DE,n16"
  | .ld_mDE_A => "LD (DE),A"
  | .ld_D_n8 _ => "LD D,n8"
  | .jr_e8 _ => "JR e8"
  | .ld_A_mDE => "LD A,(DE)"
  | .ld_E_n8 _ => "LD E,n8"
  | .jr_NZ_e8 _ => "JR NZ,e8"
  | .ld_HL_n16 _ => "LD HL,n16"
  | .ld_mHLi_A => "LD (HL+),A"
  | .ld_H_n8 _ => "LD H,n8"
  | .jr_Z_e8 _ => "JR Z,e8"
  | .ld_A_mHLi => "LD A,(HL+)"
  | .ld_L_n8 _ => "LD L,n8"
  | .jr_NC_e8 _ => "JR NC,e8"
  | .ld_SP_n16 _ => "LD SP,n16"
  | .ld_mHLd_A => "LD (HL-),A"
  | .ld_mHL_n8 _ => "LD (HL),n8"
  | .jr_C_e8 _ => "JR C,e8"
  | .ld_A_mHLd => "LD A,(HL-)"
  | .ld_A_n8 _ => "LD A,n8"
  | .ld_B_B => "LD B,B"
  | .ld_B_C => "LD B,C"
  | .ld_B_D => "LD B,D"
  | .ld_B_E => "LD B,E"
  | .ld_B_H => "LD B,H"
  | .ld_B_L => "LD B,L"
  | .ld_B_mHL => "LD B,(HL)"
  | .ld_B_A => "LD B,A"
  | .ld_C_B => "LD C,B"
  | .ld_C_C => "LD C,C"
  | .ld_C_D => "LD C,D"
  | .ld_C_E => "LD C,E"
  | .ld_C_H => "LD C,H"
  | .ld_C_L => "LD C,L"
  | .ld_C_mHL => "LD C,(HL)"
  | .ld_C_A => "LD C,A"
  | .ld_D_B => "LD D,B"
  | .ld_D_C => "LD D,C"
  | .ld_D_D => "LD D,D"
  | .ld_D_E => "LD D,E"
  | .ld_D_H => "LD D,H"
  | .ld_D_L => "LD D,L"
  | .ld_D_mHL => "LD D,(HL)"
  | .ld_D_A => "LD D,A"
  | .ld_E_B => "LD E,B"
  | .ld_E_C => "LD E,C"
  | .ld_E_D => "LD E,D"
  | .ld_E_E => "LD E,E"
  | .ld_E_H => "LD E,H"
  | .ld_E_L => "LD E,L"
  | .ld_E_mHL => "LD E,(HL)"
  | .ld_E_A => "LD E,A"
  | .ld_H_B => "LD H,B"
  | .ld_H_C => "LD H,C"
  | .ld_H_D => "LD H,D"
  | .ld_H_E => "LD H,E"
  | .ld_H_H => "LD H,H"
  | .ld_H_L => "LD H,L"
  | .ld_H_mHL => "LD H,(HL)"
  | .ld_H_A => "LD H,A"
  | .ld_L_B => "LD L,B"
  | .ld_L_C => "LD L,C"
  | .ld_L_D => "LD L,D"
  | .ld_L_E => "LD L,E"
  | .ld_L_H => "LD L,H"
  | .ld_L_L => "LD L,L"
  | .ld_L_mHL => "LD L,(HL)"
  | .ld_L_A => "LD L,A"
  | .ld_mHL_B => "LD (HL),B"
  | .ld_mHL_C => "LD (HL),C"
  | .ld_mHL_D => "LD (HL),D"
  | .ld_mHL_E => "LD (HL),E"
  | .ld_mHL_H => "LD (HL),H"
  | .ld_mHL_L => "LD (HL),L"
  | .ld_mHL_A => "LD (HL),A"
  | .ld_A_B => "LD A,B"
  | .ld_A_C => "LD A,C"
  | .ld_A_D => "LD A,D"
  | .ld_A_E => "LD A,E"
  | .ld_A_H => "LD A,H"
  | .ld_A_L => "LD A,L"
  | .ld_A_mHL => "LD A,(HL)"
  | .ld_A_A => "LD A,A"
  | .jp_NZ_a16 _ => "JP NZ,a16"
  | .jp_a16 _ => "JP a16"
  | .call_NZ_a16 _ => "CALL NZ,a16"
  | .push_BC => "PUSH BC"
  | .rst_00 => "RST 0x00"
  | .jp_Z_a16 _ => "JP Z,a16"
  | .call_Z_a16 _ => "CALL Z,a16"
  | .call_a16 _ => "CALL a16"
  | .rst_08 => "RST 0x08"
  | .jp_NC_a16 _ => "JP NC,a16"
  | .call_NC_a16 _ => "CALL NC,a16"
  | .push_DE => "PUSH DE"
  | .rst_10 => "RST 0x10"
  | .jp_C_a16 _ => "JP C,a16"
  | .call_C_a16 _ => "CALL C,a16"
  | .rst_18 => "RST 0x18"
  | .ldh_ma8_A _ => "LDH (a8),A"
  | .ldh_mC_A => "LDH (C),A"
  | .push_HL => "PUSH HL"
  | .rst_20 => "RST 0x20"
  | .jp_HL => "JP HL"
  | .ld_ma16_A _ => "LD (a16),A"
  | .rst_28 => "RST 0x28"
  | .ldh_A_ma8 _ => "LDH A,(a8)"
  | .ldh_A_mC => "LDH A,(C)"
  | .push_AF => "PUSH AF"
  | .rst_30 => "RST 0x30"
  | .ld_HL_SPe8 _ => "LD HL,SP+e8"
  | .ld_SP_HL => "LD SP,HL"
  | .ld_A_ma16 _ => "LD A,(a16)"
  | .rst_38 => "RST 0x38"
  | .rlc _ => "RLC r8"
  | .rrc _ => "RRC r8"
  | .rl _ => "RL r8"
  | .rr _ => "RR r8"
  | .sla _ => "SLA r8"
  | .sra _ => "SRA r8"
  | .swap _ => "SWAP r8"
  | .srl _ => "SRL r8"
  | .bit _ _ => "BIT b3,r8"
  | .res _ _ => "RES b3,r8"
  | .set _ _ => "SET b3,r8"
  | .stop_n8 _ => "STOP n8"
  | .add_A_n8 _ => "ADD A,n8"
  | .adc_A_n8 _ => "ADC A,n8"
  | .sub_A_n8 _ => "SUB A,n8"
  | .sbc_A_n8 _ => "SBC A,n8"
  | .and_A_n8 _ => "AND A,n8"
  | .add_SP_e8 _ => "ADD SP,e8"
  | .xor_A_n8 _ => "XOR A,n8"
  | .or_A_n8 _ => "OR A,n8"
  | .cp_A_n8 _ => "CP A,n8"
  | .inc_BC => "INC BC"
  | .inc_B => "INC B"
  | .dec_B => "DEC B"
  | .rlca => "RLCA"
  | .add_HL_BC => "ADD HL,BC"
  | .dec_BC => "DEC BC"
  | .inc_C => "INC C"
  | .dec_C => "DEC C"
  | .rrca => "RRCA"
  | .inc_DE => "INC DE"
  | .inc_D => "INC D"
  | .dec_D => "DEC D"
  | .rla => "RLA"
  | .add_HL_DE => "ADD HL,DE"
  | .dec_DE => "DEC DE"
  | .inc_E => "INC E"
  | .dec_E => "DEC E"
  | .rra => "RRA"
  | .inc_HL => "INC HL"
  | .inc_H => "INC H"
  | .dec_H => "DEC H"
  | .daa => "DAA"
  | .add_HL_HL => "ADD HL,HL"
  | .dec_HL => "DEC HL"
  | .inc_L => "INC L"
  | .dec_L => "DEC L"
  | .cpl => "CPL"
  | .inc_SP => "INC SP"
  | .inc_mHL => "INC (HL)"
  | .dec_mHL => "DEC (HL)"
  | .scf => "SCF"
  | .add_HL_SP => "ADD HL,SP"
  | .dec_SP => "DEC SP"
  | .inc_A => "INC A"
  | .dec_A => "DEC A"
  | .ccf => "CCF"
  | .halt => "HALT"
  | .add_A_B => "ADD A,B"
  | .add_A_C => "ADD A,C"
  | .add_A_D => "ADD A,D"
  | .add_A_E => "ADD A,E"
  | .add_A_H => "ADD A,H"
  | .add_A_L => "ADD A,L"
  | .add_A_mHL => "ADD A,(HL)"
  | .add_A_A => "ADD A,A"
  | .adc_A_B => "ADC A,B"
  | .adc_A_C => "ADC A,C"
  | .adc_A_D => "ADC A,D"
  | .adc_A_E => "ADC A,E"
  | .adc_A_H => "ADC A,H"
  | .adc_A_L => "ADC A,L"
  | .adc_A_mHL => "ADC A,(HL)"
  | .adc_A_A => "ADC A,A"
  | .sub_A_B => "SUB A,B"
  | .sub_A_C => "SUB A,C"
  | .sub_A_D => "SUB A,D"
  | .sub_A_E => "SUB A,E"
  | .sub_A_H => "SUB A,H"
  | .sub_A_L => "SUB A,L"
  | .sub_A_mHL => "SUB A,(HL)"
  | .sub_A_A => "SUB A,A"
  | .sbc_A_B => "SBC A,B"
  | .sbc_A_C => "SBC A,C"
  | .sbc_A_D => "SBC A,D"
  | .sbc_A_E => "SBC A,E"
  | .sbc_A_H => "SBC A,H"
  | .sbc_A_L => "SBC A,L"
  | .sbc_A_mHL => "SBC A,(HL)"
  | .sbc_A_A => "SBC A,A"
  | .and_A_B => "AND A,B"
  | .and_A_C => "AND A,C"
  | .and_A_D => "AND A,D"
  | .and_A_E => "AND A,E"
  | .and_A_H => "AND A,H"
  | .and_A_L => "AND A,L"
  | .and_A_mHL => "AND A,(HL)"
  | .and_A_A => "AND A,A"
  | .xor_A_B => "XOR A,B"
  | .xor_A_C => "XOR A,C"
  | .xor_A_D => "XOR A,D"
  | .xor_A_E => "XOR A,E"
  | .xor_A_H => "XOR A,H"
  | .xor_A_L => "XOR A,L"
  | .xor_A_mHL => "XOR A,(HL)"
  | .xor_A_A => "XOR A,A"
  | .or_A_B => "OR A,B"
  | .or_A_C => "OR A,C"
  | .or_A_D => "OR A,D"
  | .or_A_E => "OR A,E"
  | .or_A_H => "OR A,H"
  | .or_A_L => "OR A,L"
  | .or_A_mHL => "OR A,(HL)"
  | .or_A_A => "OR A,A"
  | .cp_A_B => "CP A,B"
  | .cp_A_C => "CP A,C"
  | .cp_A_D => "CP A,D"
  | .cp_A_E => "CP A,E"
  | .cp_A_H => "CP A,H"
  | .cp_A_L => "CP A,L"
  | .cp_A_mHL => "CP A,(HL)"
  | .cp_A_A => "CP A,A"
  | .ret_NZ => "RET NZ"
  | .pop_BC => "POP BC"
  | .ret_Z => "RET Z"
  | .ret => "RET"
  | .ret_NC => "RET NC"
  | .pop_DE => "POP DE"
  | .ret_C => "RET C"
  | .reti => "RETI"
  | .pop_HL => "POP HL"
  | .pop_AF => "POP AF"
  | .di => "DI"
  | .ei => "EI"
  | .illegal_D3 => "ILLEGAL"
  | .illegal_DB => "ILLEGAL"
  | .illegal_DD => "ILLEGAL"
  | .illegal_E3 => "ILLEGAL"
  | .illegal_E4 => "ILLEGAL"
  | .illegal_EB => "ILLEGAL"
  | .illegal_EC => "ILLEGAL"
  | .illegal_ED => "ILLEGAL"
  | .illegal_F4 => "ILLEGAL"
  | .illegal_FC => "ILLEGAL"
  | .illegal_FD => "ILLEGAL"
  | .prefixCB => "PREFIX"

/-! ## Instructions selected by an operand
The rows of one pattern of 30_encoding.md R60, by the operand the pattern's field names. -/

/-- `LD r8,r8'` (R90): destination, source. -/
def Instr.ldRR : Gpr → Gpr → Instr
  | .B, .B => .ld_B_B
  | .B, .C => .ld_B_C
  | .B, .D => .ld_B_D
  | .B, .E => .ld_B_E
  | .B, .H => .ld_B_H
  | .B, .L => .ld_B_L
  | .B, .A => .ld_B_A
  | .C, .B => .ld_C_B
  | .C, .C => .ld_C_C
  | .C, .D => .ld_C_D
  | .C, .E => .ld_C_E
  | .C, .H => .ld_C_H
  | .C, .L => .ld_C_L
  | .C, .A => .ld_C_A
  | .D, .B => .ld_D_B
  | .D, .C => .ld_D_C
  | .D, .D => .ld_D_D
  | .D, .E => .ld_D_E
  | .D, .H => .ld_D_H
  | .D, .L => .ld_D_L
  | .D, .A => .ld_D_A
  | .E, .B => .ld_E_B
  | .E, .C => .ld_E_C
  | .E, .D => .ld_E_D
  | .E, .E => .ld_E_E
  | .E, .H => .ld_E_H
  | .E, .L => .ld_E_L
  | .E, .A => .ld_E_A
  | .H, .B => .ld_H_B
  | .H, .C => .ld_H_C
  | .H, .D => .ld_H_D
  | .H, .E => .ld_H_E
  | .H, .H => .ld_H_H
  | .H, .L => .ld_H_L
  | .H, .A => .ld_H_A
  | .L, .B => .ld_L_B
  | .L, .C => .ld_L_C
  | .L, .D => .ld_L_D
  | .L, .E => .ld_L_E
  | .L, .H => .ld_L_H
  | .L, .L => .ld_L_L
  | .L, .A => .ld_L_A
  | .A, .B => .ld_A_B
  | .A, .C => .ld_A_C
  | .A, .D => .ld_A_D
  | .A, .E => .ld_A_E
  | .A, .H => .ld_A_H
  | .A, .L => .ld_A_L
  | .A, .A => .ld_A_A

/-- `LD r8,(HL)` (R91). -/
def Instr.ldRmHL : Gpr → Instr
  | .B => .ld_B_mHL
  | .C => .ld_C_mHL
  | .D => .ld_D_mHL
  | .E => .ld_E_mHL
  | .H => .ld_H_mHL
  | .L => .ld_L_mHL
  | .A => .ld_A_mHL

/-- `LD (HL),r8` (R92). -/
def Instr.ldmHLR : Gpr → Instr
  | .B => .ld_mHL_B
  | .C => .ld_mHL_C
  | .D => .ld_mHL_D
  | .E => .ld_mHL_E
  | .H => .ld_mHL_H
  | .L => .ld_mHL_L
  | .A => .ld_mHL_A

/-- `LD r8,n8` (R93). -/
def Instr.ldRn8 (n8 : Byte) : Gpr → Instr
  | .B => .ld_B_n8 n8
  | .C => .ld_C_n8 n8
  | .D => .ld_D_n8 n8
  | .E => .ld_E_n8 n8
  | .H => .ld_H_n8 n8
  | .L => .ld_L_n8 n8
  | .A => .ld_A_n8 n8

/-- `LD r16,n16` (R110). -/
def Instr.ldR16n16 (n16 : Word) : PairSP → Instr
  | .BC => .ld_BC_n16 n16
  | .DE => .ld_DE_n16 n16
  | .HL => .ld_HL_n16 n16
  | .SP => .ld_SP_n16 n16

/-- `JP cc,a16` (R131). -/
def Instr.jpCC (a16 : Word) : Cond → Instr
  | .NZ => .jp_NZ_a16 a16
  | .Z => .jp_Z_a16 a16
  | .NC => .jp_NC_a16 a16
  | .C => .jp_C_a16 a16

/-- `JR cc,e8` (R134). -/
def Instr.jrCC (e8 : Byte) : Cond → Instr
  | .NZ => .jr_NZ_e8 e8
  | .Z => .jr_Z_e8 e8
  | .NC => .jr_NC_e8 e8
  | .C => .jr_C_e8 e8

/-- `CALL cc,a16` (R142). -/
def Instr.callCC (a16 : Word) : Cond → Instr
  | .NZ => .call_NZ_a16 a16
  | .Z => .call_Z_a16 a16
  | .NC => .call_NC_a16 a16
  | .C => .call_C_a16 a16

/-- `RST vec` by its field `t`, `vec = 8 * t` (R56, R143). -/
def Instr.rstT (t : BitVec 3) : Instr :=
  match t with
  | 0#3 => .rst_00
  | 1#3 => .rst_08
  | 2#3 => .rst_10
  | 3#3 => .rst_18
  | 4#3 => .rst_20
  | 5#3 => .rst_28
  | 6#3 => .rst_30
  | _ => .rst_38

/-- `PUSH r16` (R144). -/
def Instr.pushP : PairAF → Instr
  | .BC => .push_BC
  | .DE => .push_DE
  | .HL => .push_HL
  | .AF => .push_AF

end Sys2Proof
end

