-- ==== Sys2Proof/Machine/State.lean ====
section
/-! DEFINITION. The state of the core as plain data, and the state after reset (10_state.md R10 to R24,
60_exceptions.md R161, 40_step_decode_resolve.md R84). -/

namespace Sys2Proof.Machine

/-- `RUN` (10_state.md R21). -/
inductive RunState where
  | running | halted | faulted
  deriving DecidableEq, Repr

/-- `ERR`: the codes of 60_exceptions.md R161 with the information each records.  `operandShape` cannot occur under
the default catalog (R164), `addressRange` under none (R165); `catalogIntegrity` and `imageTooLarge` are answers
of `powerOn`, never of a step (R166, R167). -/
inductive ErrRecord where
  | none
  | illegalOpcode (base : Word) (byte0 : Byte)
  | unimplementedMnemonic (base : Word) (isPrefixed : Bool) (opcode : Byte)
  | operandShape (base : Word) (isPrefixed : Bool) (opcode : Byte)
  | addressRange (addr : Nat)
  | catalogIntegrity (isPrefixed : Bool) (opcode : Byte)
  | imageTooLarge (imageLen : Nat)
  deriving DecidableEq, Repr

/-- `StepOutcome`: cycles consumed and the illegal-opcode signal (40_step_decode_resolve.md R84). -/
structure StepOutcome where
  cycles : Nat
  halted : Bool
  deriving DecidableEq, Repr

/-- What the last step returned, `Result<StepOutcome, EmulationError>` (R84); `notYet` before the first step.
The model's own (log 7): the interface's step returns a state, so the spec's result is kept in it. -/
inductive StepResult where
  | notYet
  | ok (outcome : StepOutcome)
  | err (error : ErrRecord)
  deriving DecidableEq, Repr

/-- The 65536 cells of the memory bus (10_state.md R22): the cells that differ from `Config.unlistedByte`, addresses
strictly rising (`Memory.wf`). -/
abbrev Memory := List Host.Cell

/-- Everything the spec gives the core between two steps (10_state.md R23): the registers of R10, R12, R18, the
memory of R22, `RUN` and `ERR` of R21; and the last step's result. -/
structure State where
  a : Byte
  f : Byte
  b : Byte
  c : Byte
  d : Byte
  e : Byte
  h : Byte
  l : Byte
  sp : Word
  pc : Word
  mem : Memory
  run : RunState
  err : ErrRecord
  lastResult : StepResult
  deriving DecidableEq, Repr

/-- A step that stops the host's run.  The type has no constructor: every outcome the spec gives a step, the fatal
errors included, is a next state whose `RUN`, `ERR` and `lastResult` say so (60_exceptions.md R169; log 1), and no
access can leave the address space (20_memory.md R41).  Nobody raises one: safe. -/
inductive Fault where
  deriving DecidableEq, Repr

/-- An instruction without a meaning. -/
inductive Refusal where
  /-- Raised by an arm of `exec` that has no meaning yet; safe.  No arm is in that state. -/
  | notModelled (mnemonic : String)
  deriving DecidableEq, Repr

/-- The answer of a meaning and of a step. -/
abbrev Answer := Host.Outcome State Fault Refusal

/-- The state right after reset (10_state.md R24): `PC`, `F[3:0]`, `RUN`, `ERR` as the spec says, an empty image,
RESET_REGS and MEM_INIT at the values of `Config` (log 4, log 5), no step made yet (log 7). -/
def State.reset : State where
  a := Config.resetByte
  f := Config.resetF
  b := Config.resetByte
  c := Config.resetByte
  d := Config.resetByte
  e := Config.resetByte
  h := Config.resetByte
  l := Config.resetByte
  sp := Config.resetSP
  pc := Config.resetPC
  mem := []
  run := .running
  err := .none
  lastResult := .notYet

end Sys2Proof.Machine
end

