-- ==== Sys2Proof/Machine/Memory.lean ====
section
/-! DEFINITION. Reading and writing the memory list in its canonical form (10_state.md R22, 20_memory.md R30
to R32). -/

namespace Sys2Proof.Machine

/-- The byte at an address: the listed one, else what an unlisted cell reads as. -/
def Memory.readCell : Memory → Nat → Byte
  | [], _ => Config.unlistedByte
  | (k, v) :: rest, a => if a = k then v else Memory.readCell rest a

/-- Set the byte at an address, keeping addresses rising and listing no cell that reads as an unlisted one. -/
def Memory.writeCell : Memory → Nat → Byte → Memory
  | [], a, v => if v = Config.unlistedByte then [] else [(a, v)]
  | (k, w) :: rest, a, v =>
    if a < k then
      if v = Config.unlistedByte then (k, w) :: rest else (a, v) :: (k, w) :: rest
    else if a = k then
      if v = Config.unlistedByte then rest else (a, v) :: rest
    else (k, w) :: Memory.writeCell rest a v

/-- The list is canonical from address `lo` on. -/
def Memory.wfFrom : Nat → Memory → Bool
  | _, [] => true
  | lo, (k, v) :: rest =>
    decide (lo ≤ k) && decide (k < 65536) && decide (v ≠ Config.unlistedByte) && Memory.wfFrom (k + 1) rest

/-- Canonical form: addresses strictly rising and below 65536, no entry that equals what an unlisted cell reads as. -/
def Memory.wf (m : Memory) : Bool := Memory.wfFrom 0 m

/-- `MemRead(addr, 1)` (20_memory.md R31). -/
def State.busRead (s : State) (addr : Word) : Byte := s.mem.readCell addr.toNat

/-- `MemWrite(addr, 1, v)` (20_memory.md R32). -/
def State.busWrite (s : State) (addr : Word) (v : Byte) : State := { s with mem := s.mem.writeCell addr.toNat v }

end Sys2Proof.Machine
end

