-- ==== Sys2Proof/Machine/Operands.lean ====
section
/-! DEFINITION. The operand forms: registers and their paired views (10_state.md R10 to R16), 16-bit bus accesses
(20_memory.md R33, R34), the post-access adjust (40_step_decode_resolve.md R79), the high-page address (43_ldh.md
R120), the branch target of a displacement (44_jp_jr.md R133). -/

namespace Sys2Proof.Machine

/-- `r8[X]`; bits 3 to 0 of `F` read as zero (R14; log 8). -/
def State.read8 (s : State) (r : Reg8) : Byte :=
  match r with
  | .A => s.a
  | .F => s.f &&& 0xF0
  | .B => s.b
  | .C => s.c
  | .D => s.d
  | .E => s.e
  | .H => s.h
  | .L => s.l

/-- `r8[X] <- v`; a write to `F` stores `v & 0xF0` (R16). -/
def State.write8 (s : State) (r : Reg8) (v : Byte) : State :=
  match r with
  | .A => { s with a := v }
  | .F => { s with f := v &&& 0xF0 }
  | .B => { s with b := v }
  | .C => { s with c := v }
  | .D => { s with d := v }
  | .E => { s with e := v }
  | .H => { s with h := v }
  | .L => { s with l := v }

/-- `r16[P]`: the pairs are views, high byte first (R11); `SP` and `PC` are independent (R12, R18). -/
def State.read16 (s : State) (p : Reg16) : Word :=
  match p with
  | .AF => pair (s.read8 .A) (s.read8 .F)
  | .BC => pair (s.read8 .B) (s.read8 .C)
  | .DE => pair (s.read8 .D) (s.read8 .E)
  | .HL => pair (s.read8 .H) (s.read8 .L)
  | .SP => s.sp
  | .PC => s.pc

/-- `r16[P] <- v` (R11, R12, R13). -/
def State.write16 (s : State) (p : Reg16) (v : Word) : State :=
  match p with
  | .AF => (s.write8 .A (hiByte v)).write8 .F (loByte v)
  | .BC => (s.write8 .B (hiByte v)).write8 .C (loByte v)
  | .DE => (s.write8 .D (hiByte v)).write8 .E (loByte v)
  | .HL => (s.write8 .H (hiByte v)).write8 .L (loByte v)
  | .SP => { s with sp := v }
  | .PC => { s with pc := v }

/-- `MemRead(addr, 2)`: low byte at `addr`, high byte at `(addr + 1) mod 2^16` (20_memory.md R33). -/
def State.busRead16 (s : State) (addr : Word) : Word := pair (s.busRead (addr + 1)) (s.busRead addr)

/-- `MemWrite(addr, 2, v)`: low byte first, at the lower address (20_memory.md R34; log 9). -/
def State.busWrite16 (s : State) (addr : Word) (v : Word) : State :=
  (s.busWrite addr (loByte v)).busWrite (addr + 1) (hiByte v)

/-- The deferred post-access adjust of `HL`, a 16-bit operation that writes no flag (R79). -/
def State.adjustHL (s : State) (adj : Adjust) : State :=
  match adj with
  | .none => s
  | .inc => s.write16 .HL (s.read16 .HL + 1)
  | .dec => s.write16 .HL (s.read16 .HL - 1)

/-- `HighPage(offset) = 0xFF00 + zext_16(offset)` (43_ldh.md R120). -/
def highPage (offset : Byte) : Word := 0xFF00 + zext16 offset

/-- `(base + 2 + sext_16(e8)) mod 2^16`: the target of a relative jump (44_jp_jr.md R133; log 14). -/
def relTarget (base : Word) (e8 : Byte) : Word := base + 2 + sext16 e8

end Sys2Proof.Machine
end

