-- ==== Sys2Proof/Machine/Flags.lean ====
section
/-! DEFINITION. The flags: their places in `F`, the named accessors (10_state.md R14, R15), the condition codes
(40_step_decode_resolve.md R78), and the one flag computation of the block (42_ld16.md R114). -/

namespace Sys2Proof.Machine

/-- The bit of `F` a flag occupies (R14). -/
def flagBit : Flag → Nat
  | .Z => 7
  | .N => 6
  | .H => 5
  | .C => 4

/-- The bits of `F` a write of the flag keeps, as R15 writes them. -/
def keptBits : Flag → Byte
  | .Z => 0x70
  | .N => 0xB0
  | .H => 0xD0
  | .C => 0xE0

/-- `flag[f]` (R14). -/
def State.getFlag (s : State) (fl : Flag) : Bool := (s.read8 .F).getLsbD (flagBit fl)

/-- `flag[f] <- b`: `r8[F] <- (r8[F] & kept) | (b << bit)` (R15). -/
def State.setFlag (s : State) (fl : Flag) (b : Bool) : State :=
  s.write8 .F ((s.read8 .F &&& keptBits fl) ||| ((BitVec.ofBool b).setWidth 8 <<< flagBit fl))

/-- `cond(cc)` on the current flags (R78). -/
def State.cond (s : State) (cc : Cond) : Bool :=
  match cc with
  | .NZ => !s.getFlag .Z
  | .Z => s.getFlag .Z
  | .NC => !s.getFlag .C
  | .C => s.getFlag .C

/-- Carry out of bit 3 of the unsigned low-nibble sum (R114). -/
def lowNibbleCarry (x y : Byte) : Bool := decide ((loNibble x).toNat + (loNibble y).toNat > 0x0F)

/-- Carry out of bit 7 of the unsigned byte sum (R114). -/
def lowByteCarry (x y : Byte) : Bool := decide (x.toNat + y.toNat > 0xFF)

/-- The flags of `LD HL,SP+e8`: Z and N cleared, H and C from the unsigned sum of `SP[7:0]` and `e8` (R114;
log 12). -/
def State.flagsSPe8 (s : State) (sp : Word) (e8 : Byte) : State :=
  (((s.setFlag .Z false).setFlag .N false).setFlag .H (lowNibbleCarry (loByte sp) e8)).setFlag .C
    (lowByteCarry (loByte sp) e8)

end Sys2Proof.Machine
end

