-- ==== Sys2Proof/Machine/Timing.lean ====
section
/-! DEFINITION. The default value of the parameter `CYCLES`, in T-cycles, by the table of 70_reset_and_hazards.md R190.
General knowledge by the spec's own mark (D3, D28; log 3).  A conditional instruction has two variants, taken and
not taken (40_step_decode_resolve.md R82). -/

namespace Sys2Proof.Machine.Cycles

/-- NOP. -/
def nop : Nat := 4
/-- LD r8,r8'. -/
def ldRR : Nat := 4
/-- LD r8,(HL) and LD (HL),r8. -/
def ldRmHL : Nat := 8
/-- LD r8,n8. -/
def ldRn8 : Nat := 8
/-- LD (HL),n8. -/
def ldmHLn8 : Nat := 12
/-- LD (BC),A; LD (DE),A; LD (HL+),A; LD (HL-),A and the reverse. -/
def ldPairA : Nat := 8
/-- LD (a16),A and LD A,(a16). -/
def ldA16A : Nat := 16
/-- LD r16,n16. -/
def ldR16n16 : Nat := 12
/-- LD (a16),SP. -/
def ldA16SP : Nat := 20
/-- LD SP,HL. -/
def ldSPHL : Nat := 8
/-- LD HL,SP+e8. -/
def ldHLSPe8 : Nat := 12
/-- LDH (a8),A and LDH A,(a8). -/
def ldhA8 : Nat := 12
/-- LDH (C),A and LDH A,(C). -/
def ldhC : Nat := 8
/-- JP a16, and JP cc,a16 when taken. -/
def jpTaken : Nat := 16
/-- JP cc,a16 when not taken. -/
def jpNotTaken : Nat := 12
/-- JP HL. -/
def jpHL : Nat := 4
/-- JR e8, and JR cc,e8 when taken. -/
def jrTaken : Nat := 12
/-- JR cc,e8 when not taken. -/
def jrNotTaken : Nat := 8
/-- CALL a16, and CALL cc,a16 when taken. -/
def callTaken : Nat := 24
/-- CALL cc,a16 when not taken. -/
def callNotTaken : Nat := 12
/-- RST vec. -/
def rst : Nat := 16
/-- PUSH r16. -/
def push : Nat := 16

end Sys2Proof.Machine.Cycles
end

