-- ==== Sys2Proof/Machine/Ops.lean ====
section
/-! DEFINITION. The shared operations: completing an instruction (40_step_decode_resolve.md R80, R84), taking a
non-normal outcome (60_exceptions.md R162, R163, R169), the push (45_call_rst_push.md R140). -/

namespace Sys2Proof.Machine

/-- Fall through: `(base + len) mod 2^16`, `base` being `PC` during the step (R80). -/
def State.fallThrough (s : State) (len : Nat) : Word := s.pc + BitVec.ofNat 16 len

/-- The commit: `PC` written once, last, and the outcome `Ok` with the selected cycles (R71 phase 6, R80, R84). -/
def State.commit (s : State) (nextPc : Word) (cycles : Nat) : State :=
  { s with pc := nextPc, lastResult := .ok ⟨cycles, false⟩ }

/-- An instruction completes: the state its effects left, `next_pc` and its cost. -/
def complete (s : State) (nextPc : Word) (cycles : Nat) : Answer := .next (s.commit nextPc cycles)

/-- Taking a non-normal outcome: it writes `RUN` and `ERR` and nothing else; `PC` keeps `base`; nothing is saved
anywhere and control goes nowhere (R169).  There is no return from it (R170). -/
def State.takeStop (s : State) (run : RunState) (error : ErrRecord) (result : StepResult) : State :=
  { s with run := run, err := error, lastResult := result }

/-- ILLEGAL_OPCODE: the halt, a successful step with 0 cycles and `halted` (46_nop_unimplemented_illegal.md R155,
60_exceptions.md R162). -/
def State.haltIllegal (s : State) (opcode : Byte) : State :=
  s.takeStop .halted (.illegalOpcode s.pc opcode) (.ok ⟨0, true⟩)

/-- `raise E(info)`: a fatal error (40_step_decode_resolve.md R71). -/
def State.raise (s : State) (error : ErrRecord) : State := s.takeStop .faulted error (.err error)

/-- UNIMPLEMENTED_MNEMONIC (46_nop_unimplemented_illegal.md R152, 60_exceptions.md R163). -/
def State.raiseUnimplemented (s : State) (isPrefixed : Bool) (opcode : Byte) : State :=
  s.raise (.unimplementedMnemonic s.pc isPrefixed opcode)

/-- A step in `HALTED`: nothing changes, the outcome is repeated (40_step_decode_resolve.md R86; log 10). -/
def State.repeatHalt (s : State) : State := { s with lastResult := .ok ⟨0, true⟩ }

/-- A step in `FAULTED`: nothing changes, the recorded error is returned again (R86; log 10). -/
def State.repeatError (s : State) : State := { s with lastResult := .err s.err }

/-- `Push16(v)`: `SP` down by 2, then the 16-bit write at the new `SP` (45_call_rst_push.md R140). -/
def State.push16 (s : State) (v : Word) : State :=
  let top := s.read16 .SP - 2
  (s.write16 .SP top).busWrite16 top v

end Sys2Proof.Machine
end

