-- ==== Sys2Proof/Machine/Jump.lean ====
section
/-! DEFINITION. JP and JR (44_jp_jr.md R130 to R135): nothing but `PC` is written. -/

namespace Sys2Proof.Machine

/-- `JP a16` (R130). -/
def jpA16 (a16 : Word) (s : State) : Answer := complete s a16 Cycles.jpTaken

/-- `JP cc,a16` (R131). -/
def jpCC (cc : Cond) (a16 : Word) (s : State) : Answer :=
  if s.cond cc then complete s a16 Cycles.jpTaken
  else complete s (s.fallThrough 3) Cycles.jpNotTaken

/-- `JP HL`: the value of `HL`, not the word it points to (R132). -/
def jpHL (s : State) : Answer := complete s (s.read16 .HL) Cycles.jpHL

/-- `JR e8` (R133; log 14). -/
def jrE8 (e8 : Byte) (s : State) : Answer := complete s (relTarget s.pc e8) Cycles.jrTaken

/-- `JR cc,e8` (R134; log 14). -/
def jrCC (cc : Cond) (e8 : Byte) (s : State) : Answer :=
  if s.cond cc then complete s (relTarget s.pc e8) Cycles.jrTaken
  else complete s (s.fallThrough 2) Cycles.jrNotTaken

/-- `JR e8`, 0x18 (R133). -/
def execJr_e8 (e8 : Byte) (s : State) : Answer := jrE8 e8 s

/-- `JR NZ,e8`, 0x20 (R134). -/
def execJr_NZ_e8 (e8 : Byte) (s : State) : Answer := jrCC .NZ e8 s

/-- `JR Z,e8`, 0x28 (R134). -/
def execJr_Z_e8 (e8 : Byte) (s : State) : Answer := jrCC .Z e8 s

/-- `JR NC,e8`, 0x30 (R134). -/
def execJr_NC_e8 (e8 : Byte) (s : State) : Answer := jrCC .NC e8 s

/-- `JR C,e8`, 0x38 (R134). -/
def execJr_C_e8 (e8 : Byte) (s : State) : Answer := jrCC .C e8 s

/-- `JP NZ,a16`, 0xC2 (R131). -/
def execJp_NZ_a16 (a16 : Word) (s : State) : Answer := jpCC .NZ a16 s

/-- `JP a16`, 0xC3 (R130). -/
def execJp_a16 (a16 : Word) (s : State) : Answer := jpA16 a16 s

/-- `JP Z,a16`, 0xCA (R131). -/
def execJp_Z_a16 (a16 : Word) (s : State) : Answer := jpCC .Z a16 s

/-- `JP NC,a16`, 0xD2 (R131). -/
def execJp_NC_a16 (a16 : Word) (s : State) : Answer := jpCC .NC a16 s

/-- `JP C,a16`, 0xDA (R131). -/
def execJp_C_a16 (a16 : Word) (s : State) : Answer := jpCC .C a16 s

/-- `JP HL`, 0xE9 (R132). -/
def execJp_HL (s : State) : Answer := jpHL s

end Sys2Proof.Machine
end

