-- ==== Sys2Proof/Machine/Ld16.lean ====
section
/-! DEFINITION. LD, 16-bit forms (42_ld16.md R110 to R114). -/

namespace Sys2Proof.Machine

/-- `LD r16,n16` (R110). -/
def ldR16n16 (d : Reg16) (n16 : Word) (s : State) : Answer :=
  complete (s.write16 d n16) (s.fallThrough 3) Cycles.ldR16n16

/-- `LD (a16),SP` (R111; log 13). -/
def ldma16SP (a16 : Word) (s : State) : Answer :=
  complete (s.busWrite16 a16 (s.read16 .SP)) (s.fallThrough 3) Cycles.ldA16SP

/-- `LD SP,HL` (R112; log 13). -/
def ldSPHL (s : State) : Answer :=
  complete (s.write16 .SP (s.read16 .HL)) (s.fallThrough 1) Cycles.ldSPHL

/-- `LD HL,SP+e8`: the sum modulo 2^16 into `HL`, then the four flags (R114; log 12). -/
def ldHLSPe8 (e8 : Byte) (s : State) : Answer :=
  complete ((s.write16 .HL (s.read16 .SP + sext16 e8)).flagsSPe8 (s.read16 .SP) e8) (s.fallThrough 2)
    Cycles.ldHLSPe8

/-- `LD BC,n16`, 0x01 (R110). -/
def execLd_BC_n16 (n16 : Word) (s : State) : Answer := ldR16n16 .BC n16 s

/-- `LD (a16),SP`, 0x08 (R111). -/
def execLd_ma16_SP (a16 : Word) (s : State) : Answer := ldma16SP a16 s

/-- `LD DE,n16`, 0x11 (R110). -/
def execLd_DE_n16 (n16 : Word) (s : State) : Answer := ldR16n16 .DE n16 s

/-- `LD HL,n16`, 0x21 (R110). -/
def execLd_HL_n16 (n16 : Word) (s : State) : Answer := ldR16n16 .HL n16 s

/-- `LD SP,n16`, 0x31 (R110). -/
def execLd_SP_n16 (n16 : Word) (s : State) : Answer := ldR16n16 .SP n16 s

/-- `LD HL,SP+e8`, 0xF8 (R114). -/
def execLd_HL_SPe8 (e8 : Byte) (s : State) : Answer := ldHLSPe8 e8 s

/-- `LD SP,HL`, 0xF9 (R112). -/
def execLd_SP_HL (s : State) : Answer := ldSPHL s

end Sys2Proof.Machine
end

