-- ==== Sys2Proof/Machine/Ld8.lean ====
section
/-! DEFINITION. LD, 8-bit forms (41_ld8.md R90 to R105).  The shared operation of each rule, then one meaning per
opcode.  `base` is `s.pc` throughout; `PC` moves only in `complete`. -/

namespace Sys2Proof.Machine

/-- `LD r8,r8'` (R90). -/
def ldRR (d src : Reg8) (s : State) : Answer :=
  complete (s.write8 d (s.read8 src)) (s.fallThrough 1) Cycles.ldRR

/-- `LD r8,(HL)`: the address is formed from the old `HL` (R91). -/
def ldRmHL (d : Reg8) (s : State) : Answer :=
  complete (s.write8 d (s.busRead (s.read16 .HL))) (s.fallThrough 1) Cycles.ldRmHL

/-- `LD (HL),r8` (R92). -/
def ldmHLR (src : Reg8) (s : State) : Answer :=
  complete (s.busWrite (s.read16 .HL) (s.read8 src)) (s.fallThrough 1) Cycles.ldRmHL

/-- `LD r8,n8` (R93). -/
def ldRn8 (d : Reg8) (n8 : Byte) (s : State) : Answer :=
  complete (s.write8 d n8) (s.fallThrough 2) Cycles.ldRn8

/-- `LD (HL),n8` (R94). -/
def ldmHLn8 (n8 : Byte) (s : State) : Answer :=
  complete (s.busWrite (s.read16 .HL) n8) (s.fallThrough 2) Cycles.ldmHLn8

/-- Store `A` at the address a pair holds, then the adjust (R95 to R98). -/
def ldmPairA (p : Reg16) (adj : Adjust) (s : State) : Answer :=
  complete ((s.busWrite (s.read16 p) (s.read8 .A)).adjustHL adj) (s.fallThrough 1) Cycles.ldPairA

/-- Load `A` from the address a pair holds, then the adjust (R99 to R102). -/
def ldAmPair (p : Reg16) (adj : Adjust) (s : State) : Answer :=
  complete ((s.write8 .A (s.busRead (s.read16 p))).adjustHL adj) (s.fallThrough 1) Cycles.ldPairA

/-- `LD (a16),A` (R103). -/
def ldma16A (a16 : Word) (s : State) : Answer :=
  complete (s.busWrite a16 (s.read8 .A)) (s.fallThrough 3) Cycles.ldA16A

/-- `LD A,(a16)` (R104). -/
def ldAma16 (a16 : Word) (s : State) : Answer :=
  complete (s.write8 .A (s.busRead a16)) (s.fallThrough 3) Cycles.ldA16A

/-- `LD (BC),A`, 0x02 (R95). -/
def execLd_mBC_A (s : State) : Answer := ldmPairA .BC .none s

/-- `LD B,n8`, 0x06 (R93). -/
def execLd_B_n8 (n8 : Byte) (s : State) : Answer := ldRn8 .B n8 s

/-- `LD A,(BC)`, 0x0A (R99). -/
def execLd_A_mBC (s : State) : Answer := ldAmPair .BC .none s

/-- `LD C,n8`, 0x0E (R93). -/
def execLd_C_n8 (n8 : Byte) (s : State) : Answer := ldRn8 .C n8 s

/-- `LD (DE),A`, 0x12 (R96). -/
def execLd_mDE_A (s : State) : Answer := ldmPairA .DE .none s

/-- `LD D,n8`, 0x16 (R93). -/
def execLd_D_n8 (n8 : Byte) (s : State) : Answer := ldRn8 .D n8 s

/-- `LD A,(DE)`, 0x1A (R100). -/
def execLd_A_mDE (s : State) : Answer := ldAmPair .DE .none s

/-- `LD E,n8`, 0x1E (R93). -/
def execLd_E_n8 (n8 : Byte) (s : State) : Answer := ldRn8 .E n8 s

/-- `LD (HL+),A`, 0x22 (R97). -/
def execLd_mHLi_A (s : State) : Answer := ldmPairA .HL .inc s

/-- `LD H,n8`, 0x26 (R93). -/
def execLd_H_n8 (n8 : Byte) (s : State) : Answer := ldRn8 .H n8 s

/-- `LD A,(HL+)`, 0x2A (R101). -/
def execLd_A_mHLi (s : State) : Answer := ldAmPair .HL .inc s

/-- `LD L,n8`, 0x2E (R93). -/
def execLd_L_n8 (n8 : Byte) (s : State) : Answer := ldRn8 .L n8 s

/-- `LD (HL-),A`, 0x32 (R98). -/
def execLd_mHLd_A (s : State) : Answer := ldmPairA .HL .dec s

/-- `LD (HL),n8`, 0x36 (R94). -/
def execLd_mHL_n8 (n8 : Byte) (s : State) : Answer := ldmHLn8 n8 s

/-- `LD A,(HL-)`, 0x3A (R102). -/
def execLd_A_mHLd (s : State) : Answer := ldAmPair .HL .dec s

/-- `LD A,n8`, 0x3E (R93). -/
def execLd_A_n8 (n8 : Byte) (s : State) : Answer := ldRn8 .A n8 s

/-- `LD B,B`, 0x40 (R90). -/
def execLd_B_B (s : State) : Answer := ldRR .B .B s

/-- `LD B,C`, 0x41 (R90). -/
def execLd_B_C (s : State) : Answer := ldRR .B .C s

/-- `LD B,D`, 0x42 (R90). -/
def execLd_B_D (s : State) : Answer := ldRR .B .D s

/-- `LD B,E`, 0x43 (R90). -/
def execLd_B_E (s : State) : Answer := ldRR .B .E s

/-- `LD B,H`, 0x44 (R90). -/
def execLd_B_H (s : State) : Answer := ldRR .B .H s

/-- `LD B,L`, 0x45 (R90). -/
def execLd_B_L (s : State) : Answer := ldRR .B .L s

/-- `LD B,(HL)`, 0x46 (R91). -/
def execLd_B_mHL (s : State) : Answer := ldRmHL .B s

/-- `LD B,A`, 0x47 (R90). -/
def execLd_B_A (s : State) : Answer := ldRR .B .A s

/-- `LD C,B`, 0x48 (R90). -/
def execLd_C_B (s : State) : Answer := ldRR .C .B s

/-- `LD C,C`, 0x49 (R90). -/
def execLd_C_C (s : State) : Answer := ldRR .C .C s

/-- `LD C,D`, 0x4A (R90). -/
def execLd_C_D (s : State) : Answer := ldRR .C .D s

/-- `LD C,E`, 0x4B (R90). -/
def execLd_C_E (s : State) : Answer := ldRR .C .E s

/-- `LD C,H`, 0x4C (R90). -/
def execLd_C_H (s : State) : Answer := ldRR .C .H s

/-- `LD C,L`, 0x4D (R90). -/
def execLd_C_L (s : State) : Answer := ldRR .C .L s

/-- `LD C,(HL)`, 0x4E (R91). -/
def execLd_C_mHL (s : State) : Answer := ldRmHL .C s

/-- `LD C,A`, 0x4F (R90). -/
def execLd_C_A (s : State) : Answer := ldRR .C .A s

/-- `LD D,B`, 0x50 (R90). -/
def execLd_D_B (s : State) : Answer := ldRR .D .B s

/-- `LD D,C`, 0x51 (R90). -/
def execLd_D_C (s : State) : Answer := ldRR .D .C s

/-- `LD D,D`, 0x52 (R90). -/
def execLd_D_D (s : State) : Answer := ldRR .D .D s

/-- `LD D,E`, 0x53 (R90). -/
def execLd_D_E (s : State) : Answer := ldRR .D .E s

/-- `LD D,H`, 0x54 (R90). -/
def execLd_D_H (s : State) : Answer := ldRR .D .H s

/-- `LD D,L`, 0x55 (R90). -/
def execLd_D_L (s : State) : Answer := ldRR .D .L s

/-- `LD D,(HL)`, 0x56 (R91). -/
def execLd_D_mHL (s : State) : Answer := ldRmHL .D s

/-- `LD D,A`, 0x57 (R90). -/
def execLd_D_A (s : State) : Answer := ldRR .D .A s

/-- `LD E,B`, 0x58 (R90). -/
def execLd_E_B (s : State) : Answer := ldRR .E .B s

/-- `LD E,C`, 0x59 (R90). -/
def execLd_E_C (s : State) : Answer := ldRR .E .C s

/-- `LD E,D`, 0x5A (R90). -/
def execLd_E_D (s : State) : Answer := ldRR .E .D s

/-- `LD E,E`, 0x5B (R90). -/
def execLd_E_E (s : State) : Answer := ldRR .E .E s

/-- `LD E,H`, 0x5C (R90). -/
def execLd_E_H (s : State) : Answer := ldRR .E .H s

/-- `LD E,L`, 0x5D (R90). -/
def execLd_E_L (s : State) : Answer := ldRR .E .L s

/-- `LD E,(HL)`, 0x5E (R91). -/
def execLd_E_mHL (s : State) : Answer := ldRmHL .E s

/-- `LD E,A`, 0x5F (R90). -/
def execLd_E_A (s : State) : Answer := ldRR .E .A s

/-- `LD H,B`, 0x60 (R90). -/
def execLd_H_B (s : State) : Answer := ldRR .H .B s

/-- `LD H,C`, 0x61 (R90). -/
def execLd_H_C (s : State) : Answer := ldRR .H .C s

/-- `LD H,D`, 0x62 (R90). -/
def execLd_H_D (s : State) : Answer := ldRR .H .D s

/-- `LD H,E`, 0x63 (R90). -/
def execLd_H_E (s : State) : Answer := ldRR .H .E s

/-- `LD H,H`, 0x64 (R90). -/
def execLd_H_H (s : State) : Answer := ldRR .H .H s

/-- `LD H,L`, 0x65 (R90). -/
def execLd_H_L (s : State) : Answer := ldRR .H .L s

/-- `LD H,(HL)`, 0x66 (R91). -/
def execLd_H_mHL (s : State) : Answer := ldRmHL .H s

/-- `LD H,A`, 0x67 (R90). -/
def execLd_H_A (s : State) : Answer := ldRR .H .A s

/-- `LD L,B`, 0x68 (R90). -/
def execLd_L_B (s : State) : Answer := ldRR .L .B s

/-- `LD L,C`, 0x69 (R90). -/
def execLd_L_C (s : State) : Answer := ldRR .L .C s

/-- `LD L,D`, 0x6A (R90). -/
def execLd_L_D (s : State) : Answer := ldRR .L .D s

/-- `LD L,E`, 0x6B (R90). -/
def execLd_L_E (s : State) : Answer := ldRR .L .E s

/-- `LD L,H`, 0x6C (R90). -/
def execLd_L_H (s : State) : Answer := ldRR .L .H s

/-- `LD L,L`, 0x6D (R90). -/
def execLd_L_L (s : State) : Answer := ldRR .L .L s

/-- `LD L,(HL)`, 0x6E (R91). -/
def execLd_L_mHL (s : State) : Answer := ldRmHL .L s

/-- `LD L,A`, 0x6F (R90). -/
def execLd_L_A (s : State) : Answer := ldRR .L .A s

/-- `LD (HL),B`, 0x70 (R92). -/
def execLd_mHL_B (s : State) : Answer := ldmHLR .B s

/-- `LD (HL),C`, 0x71 (R92). -/
def execLd_mHL_C (s : State) : Answer := ldmHLR .C s

/-- `LD (HL),D`, 0x72 (R92). -/
def execLd_mHL_D (s : State) : Answer := ldmHLR .D s

/-- `LD (HL),E`, 0x73 (R92). -/
def execLd_mHL_E (s : State) : Answer := ldmHLR .E s

/-- `LD (HL),H`, 0x74 (R92). -/
def execLd_mHL_H (s : State) : Answer := ldmHLR .H s

/-- `LD (HL),L`, 0x75 (R92). -/
def execLd_mHL_L (s : State) : Answer := ldmHLR .L s

/-- `LD (HL),A`, 0x77 (R92). -/
def execLd_mHL_A (s : State) : Answer := ldmHLR .A s

/-- `LD A,B`, 0x78 (R90). -/
def execLd_A_B (s : State) : Answer := ldRR .A .B s

/-- `LD A,C`, 0x79 (R90). -/
def execLd_A_C (s : State) : Answer := ldRR .A .C s

/-- `LD A,D`, 0x7A (R90). -/
def execLd_A_D (s : State) : Answer := ldRR .A .D s

/-- `LD A,E`, 0x7B (R90). -/
def execLd_A_E (s : State) : Answer := ldRR .A .E s

/-- `LD A,H`, 0x7C (R90). -/
def execLd_A_H (s : State) : Answer := ldRR .A .H s

/-- `LD A,L`, 0x7D (R90). -/
def execLd_A_L (s : State) : Answer := ldRR .A .L s

/-- `LD A,(HL)`, 0x7E (R91). -/
def execLd_A_mHL (s : State) : Answer := ldRmHL .A s

/-- `LD A,A`, 0x7F (R90). -/
def execLd_A_A (s : State) : Answer := ldRR .A .A s

/-- `LD (a16),A`, 0xEA (R103). -/
def execLd_ma16_A (a16 : Word) (s : State) : Answer := ldma16A a16 s

/-- `LD A,(a16)`, 0xFA (R104). -/
def execLd_A_ma16 (a16 : Word) (s : State) : Answer := ldAma16 a16 s

end Sys2Proof.Machine
end

