-- ==== Sys2Proof/Machine/Ldh.lean ====
section
/-! DEFINITION. LDH, the high-page load and store (43_ldh.md R120 to R124).  The high page is ordinary memory
(20_memory.md R39). -/

namespace Sys2Proof.Machine

/-- Store `A` at `HighPage(offset)` (R121, R123). -/
def ldhStore (offset : Byte) (len cycles : Nat) (s : State) : Answer :=
  complete (s.busWrite (highPage offset) (s.read8 .A)) (s.fallThrough len) cycles

/-- Load `A` from `HighPage(offset)` (R122, R124). -/
def ldhLoad (offset : Byte) (len cycles : Nat) (s : State) : Answer :=
  complete (s.write8 .A (s.busRead (highPage offset))) (s.fallThrough len) cycles

/-- `LDH (a8),A`, 0xE0 (R121). -/
def execLdh_ma8_A (a8 : Byte) (s : State) : Answer := ldhStore a8 2 Cycles.ldhA8 s

/-- `LDH (C),A`, 0xE2 (R123). -/
def execLdh_mC_A (s : State) : Answer := ldhStore (s.read8 .C) 1 Cycles.ldhC s

/-- `LDH A,(a8)`, 0xF0 (R122). -/
def execLdh_A_ma8 (a8 : Byte) (s : State) : Answer := ldhLoad a8 2 Cycles.ldhA8 s

/-- `LDH A,(C)`, 0xF2 (R124). -/
def execLdh_A_mC (s : State) : Answer := ldhLoad (s.read8 .C) 1 Cycles.ldhC s

end Sys2Proof.Machine
end

