-- ==== Sys2Proof/Machine/Catalog.lean ====
section
/-! DEFINITION. The default instruction catalog (00_scope.md R7, 30_encoding.md R58 to R64): one entry for each
of the 512 keys, the numbers those of spec/opcode_table.json, the operand lists of executed instructions those of
40_step_decode_resolve.md R83.  Every opcode byte but 0x00, 0x3E, 0x47, 0xC3, 0xCB and every cycle number is
general knowledge by the spec's own mark: log 2, log 3.  The operand lists of unimplemented entries are read from
their spelling (log 23). -/

namespace Sys2Proof

namespace OperandSpec

/-- `Reg8(r)`. -/
def r8 (r : Reg8) : OperandSpec := ⟨.reg8 r, false, .none⟩
/-- `Reg16(p)`. -/
def r16 (p : Reg16) : OperandSpec := ⟨.reg16 p, false, .none⟩
/-- `Reg16(p) deref`. -/
def m16 (p : Reg16) : OperandSpec := ⟨.reg16 p, true, .none⟩
/-- `Reg16(HL) deref adjust +1`. -/
def mHLi : OperandSpec := ⟨.reg16 .HL, true, .inc⟩
/-- `Reg16(HL) deref adjust -1`. -/
def mHLd : OperandSpec := ⟨.reg16 .HL, true, .dec⟩
/-- `Reg8(C) deref` (LDH). -/
def mC : OperandSpec := ⟨.reg8 .C, true, .none⟩
/-- `Imm8(1)`. -/
def n8 : OperandSpec := ⟨.imm8 1, false, .none⟩
/-- `Imm8(1) deref` (LDH). -/
def mA8 : OperandSpec := ⟨.imm8 1, true, .none⟩
/-- `Imm16(1)`. -/
def n16 : OperandSpec := ⟨.imm16 1, false, .none⟩
/-- `Imm16(1) deref`. -/
def mA16 : OperandSpec := ⟨.imm16 1, true, .none⟩
/-- `Rel8(1)`. -/
def e8 : OperandSpec := ⟨.rel8 1, false, .none⟩
/-- `Bit3(b)`. -/
def bit3 (b : BitVec 3) : OperandSpec := ⟨.bit3 b, false, .none⟩
/-- `Cond(cc)`. -/
def cond (cc : Cond) : OperandSpec := ⟨.cond cc, false, .none⟩
/-- `Vec(v)`. -/
def vec (v : Word) : OperandSpec := ⟨.vec v, false, .none⟩

/-- The specification of an 8-bit operand code: a register, or `Reg16(HL) deref` for code 6 (R53, R59). -/
def ofOperand8 : Operand8 → OperandSpec
  | .B => r8 .B | .C => r8 .C | .D => r8 .D | .E => r8 .E | .H => r8 .H | .L => r8 .L | .mHL => m16 .HL | .A => r8 .A

/-- `operands of the kinds of R59`: `F` and `PC` are named by none, `deref` of a byte register is `(C)` only,
`adjust` goes with `Reg16(HL) deref` only, an immediate is at offset 1 (R57, R59, R166).  DESIGN CHOICE (log 28): R166 does
not say which of R59's limits on the modifiers the construction check covers.  The model checks these on each operand
alone; R59's "LDH only" for `(a8)` and `(C)` speaks of the mnemonic and is left to OPERAND_SHAPE (R83, R164). -/
def wf (o : OperandSpec) : Bool :=
  match o.kind with
  | .reg8 r => r != .F && (!o.deref || r == .C) && o.adjust == .none
  | .reg16 p => p != .PC && (o.adjust == .none || (p == .HL && o.deref))
  | .imm8 off | .imm16 off => off == 1 && o.adjust == .none
  | .rel8 off => off == 1 && !o.deref && o.adjust == .none
  | .bit3 _ | .cond _ | .vec _ => !o.deref && o.adjust == .none

/-- The operand is a condition code. -/
def isCond (o : OperandSpec) : Bool :=
  match o.kind with
  | .cond _ => true
  | .reg8 _ | .reg16 _ | .imm8 _ | .imm16 _ | .rel8 _ | .bit3 _ | .vec _ => false

end OperandSpec

/-- "Unaffected" for all four flags. -/
def FlagSpec.plain : FlagSpec := ⟨.unaffected, .unaffected, .unaffected, .unaffected⟩

/-- The flag-effect specification of `LD HL,SP+e8` (R166). -/
def FlagSpec.spE8 : FlagSpec := ⟨.cleared, .cleared, .computed, .computed⟩

namespace InstructionSpec

/-- The instruction has a condition code among its operands. -/
def hasCond (spec : InstructionSpec) : Bool := spec.operands.any OperandSpec.isCond

/-- The flag effect an executed key must agree with (R166).  DESIGN CHOICE (log 26): R166 speaks of the instruction's rule
and, in its parenthesis, of the opcode; where a catalog puts `LD HL,SP+e8` at another key than 0xF8, or another
instruction at 0xF8, the two differ, and the model goes by the opcode. -/
def ruledFlags (prefixed : Bool) (opcode : Byte) : FlagSpec :=
  if prefixed = false ∧ opcode = 0xF8 then .spE8 else .plain

/-- A well-formed entry of a key (60_exceptions.md R166): length 1 to 3, one cycle variant, or two exactly
when there is a condition code, operands of the kinds of R59, and a flag-effect specification, where there is
one, that agrees with the rule of an executed instruction. -/
def wf (prefixed : Bool) (opcode : Byte) (spec : InstructionSpec) : Bool :=
  decide (1 ≤ spec.length ∧ spec.length ≤ 3)
    && decide (spec.cycles.length = if spec.hasCond then 2 else 1)
    && spec.operands.all OperandSpec.wf
    && (!spec.mnemonic.modeled || spec.flags == none || spec.flags == some (ruledFlags prefixed opcode))

end InstructionSpec

namespace Catalog

open OperandSpec

/-- An entry of an executed instruction that writes no flag. -/
def exe (m : Mnemonic) (length : Nat) (cycles : List Nat) (operands : List OperandSpec) : InstructionSpec :=
  ⟨m, length, cycles, operands, some .plain⟩

/-- An entry of an instruction outside the modeled families: the spec gives it no flag effect. -/
def other (m : Mnemonic) (length : Nat) (cycles : List Nat) (operands : List OperandSpec) : InstructionSpec :=
  ⟨m, length, cycles, operands, none⟩

/-- The explicit illegal entry (R62). -/
def illegal : InstructionSpec := ⟨.ILLEGAL, 1, [4], [], none⟩

/-- Row 0x of the opcode map (R60 to R62, R64). -/
def row0 (lo : BitVec 4) : InstructionSpec :=
  match lo with
  | 0x0#4 => exe .NOP 1 [4] []
  | 0x1#4 => exe .LD 3 [12] [r16 .BC, n16]
  | 0x2#4 => exe .LD 1 [8] [m16 .BC, r8 .A]
  | 0x3#4 => other .INC 1 [8] [r16 .BC]
  | 0x4#4 => other .INC 1 [4] [r8 .B]
  | 0x5#4 => other .DEC 1 [4] [r8 .B]
  | 0x6#4 => exe .LD 2 [8] [r8 .B, n8]
  | 0x7#4 => other .RLCA 1 [4] []
  | 0x8#4 => exe .LD 3 [20] [mA16, r16 .SP]
  | 0x9#4 => other .ADD 1 [8] [r16 .HL, r16 .BC]
  | 0xA#4 => exe .LD 1 [8] [r8 .A, m16 .BC]
  | 0xB#4 => other .DEC 1 [8] [r16 .BC]
  | 0xC#4 => other .INC 1 [4] [r8 .C]
  | 0xD#4 => other .DEC 1 [4] [r8 .C]
  | 0xE#4 => exe .LD 2 [8] [r8 .C, n8]
  | _     => other .RRCA 1 [4] []

/-- Row 1x of the opcode map (R60 to R62, R64). -/
def row1 (lo : BitVec 4) : InstructionSpec :=
  match lo with
  | 0x0#4 => other .STOP 2 [4] [n8]
  | 0x1#4 => exe .LD 3 [12] [r16 .DE, n16]
  | 0x2#4 => exe .LD 1 [8] [m16 .DE, r8 .A]
  | 0x3#4 => other .INC 1 [8] [r16 .DE]
  | 0x4#4 => other .INC 1 [4] [r8 .D]
  | 0x5#4 => other .DEC 1 [4] [r8 .D]
  | 0x6#4 => exe .LD 2 [8] [r8 .D, n8]
  | 0x7#4 => other .RLA 1 [4] []
  | 0x8#4 => exe .JR 2 [12] [e8]
  | 0x9#4 => other .ADD 1 [8] [r16 .HL, r16 .DE]
  | 0xA#4 => exe .LD 1 [8] [r8 .A, m16 .DE]
  | 0xB#4 => other .DEC 1 [8] [r16 .DE]
  | 0xC#4 => other .INC 1 [4] [r8 .E]
  | 0xD#4 => other .DEC 1 [4] [r8 .E]
  | 0xE#4 => exe .LD 2 [8] [r8 .E, n8]
  | _     => other .RRA 1 [4] []

/-- Row 2x of the opcode map (R60 to R62, R64). -/
def row2 (lo : BitVec 4) : InstructionSpec :=
  match lo with
  | 0x0#4 => exe .JR 2 [12, 8] [cond .NZ, e8]
  | 0x1#4 => exe .LD 3 [12] [r16 .HL, n16]
  | 0x2#4 => exe .LD 1 [8] [mHLi, r8 .A]
  | 0x3#4 => other .INC 1 [8] [r16 .HL]
  | 0x4#4 => other .INC 1 [4] [r8 .H]
  | 0x5#4 => other .DEC 1 [4] [r8 .H]
  | 0x6#4 => exe .LD 2 [8] [r8 .H, n8]
  | 0x7#4 => other .DAA 1 [4] []
  | 0x8#4 => exe .JR 2 [12, 8] [cond .Z, e8]
  | 0x9#4 => other .ADD 1 [8] [r16 .HL, r16 .HL]
  | 0xA#4 => exe .LD 1 [8] [r8 .A, mHLi]
  | 0xB#4 => other .DEC 1 [8] [r16 .HL]
  | 0xC#4 => other .INC 1 [4] [r8 .L]
  | 0xD#4 => other .DEC 1 [4] [r8 .L]
  | 0xE#4 => exe .LD 2 [8] [r8 .L, n8]
  | _     => other .CPL 1 [4] []

/-- Row 3x of the opcode map (R60 to R62, R64). -/
def row3 (lo : BitVec 4) : InstructionSpec :=
  match lo with
  | 0x0#4 => exe .JR 2 [12, 8] [cond .NC, e8]
  | 0x1#4 => exe .LD 3 [12] [r16 .SP, n16]
  | 0x2#4 => exe .LD 1 [8] [mHLd, r8 .A]
  | 0x3#4 => other .INC 1 [8] [r16 .SP]
  | 0x4#4 => other .INC 1 [12] [m16 .HL]
  | 0x5#4 => other .DEC 1 [12] [m16 .HL]
  | 0x6#4 => exe .LD 2 [12] [m16 .HL, n8]
  | 0x7#4 => other .SCF 1 [4] []
  | 0x8#4 => exe .JR 2 [12, 8] [cond .C, e8]
  | 0x9#4 => other .ADD 1 [8] [r16 .HL, r16 .SP]
  | 0xA#4 => exe .LD 1 [8] [r8 .A, mHLd]
  | 0xB#4 => other .DEC 1 [8] [r16 .SP]
  | 0xC#4 => other .INC 1 [4] [r8 .A]
  | 0xD#4 => other .DEC 1 [4] [r8 .A]
  | 0xE#4 => exe .LD 2 [8] [r8 .A, n8]
  | _     => other .CCF 1 [4] []

/-- Row 4x of the opcode map (R60 to R62, R64). -/
def row4 (lo : BitVec 4) : InstructionSpec :=
  match lo with
  | 0x0#4 => exe .LD 1 [4] [r8 .B, r8 .B]
  | 0x1#4 => exe .LD 1 [4] [r8 .B, r8 .C]
  | 0x2#4 => exe .LD 1 [4] [r8 .B, r8 .D]
  | 0x3#4 => exe .LD 1 [4] [r8 .B, r8 .E]
  | 0x4#4 => exe .LD 1 [4] [r8 .B, r8 .H]
  | 0x5#4 => exe .LD 1 [4] [r8 .B, r8 .L]
  | 0x6#4 => exe .LD 1 [8] [r8 .B, m16 .HL]
  | 0x7#4 => exe .LD 1 [4] [r8 .B, r8 .A]
  | 0x8#4 => exe .LD 1 [4] [r8 .C, r8 .B]
  | 0x9#4 => exe .LD 1 [4] [r8 .C, r8 .C]
  | 0xA#4 => exe .LD 1 [4] [r8 .C, r8 .D]
  | 0xB#4 => exe .LD 1 [4] [r8 .C, r8 .E]
  | 0xC#4 => exe .LD 1 [4] [r8 .C, r8 .H]
  | 0xD#4 => exe .LD 1 [4] [r8 .C, r8 .L]
  | 0xE#4 => exe .LD 1 [8] [r8 .C, m16 .HL]
  | _     => exe .LD 1 [4] [r8 .C, r8 .A]

/-- Row 5x of the opcode map (R60 to R62, R64). -/
def row5 (lo : BitVec 4) : InstructionSpec :=
  match lo with
  | 0x0#4 => exe .LD 1 [4] [r8 .D, r8 .B]
  | 0x1#4 => exe .LD 1 [4] [r8 .D, r8 .C]
  | 0x2#4 => exe .LD 1 [4] [r8 .D, r8 .D]
  | 0x3#4 => exe .LD 1 [4] [r8 .D, r8 .E]
  | 0x4#4 => exe .LD 1 [4] [r8 .D, r8 .H]
  | 0x5#4 => exe .LD 1 [4] [r8 .D, r8 .L]
  | 0x6#4 => exe .LD 1 [8] [r8 .D, m16 .HL]
  | 0x7#4 => exe .LD 1 [4] [r8 .D, r8 .A]
  | 0x8#4 => exe .LD 1 [4] [r8 .E, r8 .B]
  | 0x9#4 => exe .LD 1 [4] [r8 .E, r8 .C]
  | 0xA#4 => exe .LD 1 [4] [r8 .E, r8 .D]
  | 0xB#4 => exe .LD 1 [4] [r8 .E, r8 .E]
  | 0xC#4 => exe .LD 1 [4] [r8 .E, r8 .H]
  | 0xD#4 => exe .LD 1 [4] [r8 .E, r8 .L]
  | 0xE#4 => exe .LD 1 [8] [r8 .E, m16 .HL]
  | _     => exe .LD 1 [4] [r8 .E, r8 .A]

/-- Row 6x of the opcode map (R60 to R62, R64). -/
def row6 (lo : BitVec 4) : InstructionSpec :=
  match lo with
  | 0x0#4 => exe .LD 1 [4] [r8 .H, r8 .B]
  | 0x1#4 => exe .LD 1 [4] [r8 .H, r8 .C]
  | 0x2#4 => exe .LD 1 [4] [r8 .H, r8 .D]
  | 0x3#4 => exe .LD 1 [4] [r8 .H, r8 .E]
  | 0x4#4 => exe .LD 1 [4] [r8 .H, r8 .H]
  | 0x5#4 => exe .LD 1 [4] [r8 .H, r8 .L]
  | 0x6#4 => exe .LD 1 [8] [r8 .H, m16 .HL]
  | 0x7#4 => exe .LD 1 [4] [r8 .H, r8 .A]
  | 0x8#4 => exe .LD 1 [4] [r8 .L, r8 .B]
  | 0x9#4 => exe .LD 1 [4] [r8 .L, r8 .C]
  | 0xA#4 => exe .LD 1 [4] [r8 .L, r8 .D]
  | 0xB#4 => exe .LD 1 [4] [r8 .L, r8 .E]
  | 0xC#4 => exe .LD 1 [4] [r8 .L, r8 .H]
  | 0xD#4 => exe .LD 1 [4] [r8 .L, r8 .L]
  | 0xE#4 => exe .LD 1 [8] [r8 .L, m16 .HL]
  | _     => exe .LD 1 [4] [r8 .L, r8 .A]

/-- Row 7x of the opcode map (R60 to R62, R64). -/
def row7 (lo : BitVec 4) : InstructionSpec :=
  match lo with
  | 0x0#4 => exe .LD 1 [8] [m16 .HL, r8 .B]
  | 0x1#4 => exe .LD 1 [8] [m16 .HL, r8 .C]
  | 0x2#4 => exe .LD 1 [8] [m16 .HL, r8 .D]
  | 0x3#4 => exe .LD 1 [8] [m16 .HL, r8 .E]
  | 0x4#4 => exe .LD 1 [8] [m16 .HL, r8 .H]
  | 0x5#4 => exe .LD 1 [8] [m16 .HL, r8 .L]
  | 0x6#4 => other .HALT 1 [4] []
  | 0x7#4 => exe .LD 1 [8] [m16 .HL, r8 .A]
  | 0x8#4 => exe .LD 1 [4] [r8 .A, r8 .B]
  | 0x9#4 => exe .LD 1 [4] [r8 .A, r8 .C]
  | 0xA#4 => exe .LD 1 [4] [r8 .A, r8 .D]
  | 0xB#4 => exe .LD 1 [4] [r8 .A, r8 .E]
  | 0xC#4 => exe .LD 1 [4] [r8 .A, r8 .H]
  | 0xD#4 => exe .LD 1 [4] [r8 .A, r8 .L]
  | 0xE#4 => exe .LD 1 [8] [r8 .A, m16 .HL]
  | _     => exe .LD 1 [4] [r8 .A, r8 .A]

/-- Row 8x of the opcode map (R60 to R62, R64). -/
def row8 (lo : BitVec 4) : InstructionSpec :=
  match lo with
  | 0x0#4 => other .ADD 1 [4] [r8 .A, r8 .B]
  | 0x1#4 => other .ADD 1 [4] [r8 .A, r8 .C]
  | 0x2#4 => other .ADD 1 [4] [r8 .A, r8 .D]
  | 0x3#4 => other .ADD 1 [4] [r8 .A, r8 .E]
  | 0x4#4 => other .ADD 1 [4] [r8 .A, r8 .H]
  | 0x5#4 => other .ADD 1 [4] [r8 .A, r8 .L]
  | 0x6#4 => other .ADD 1 [8] [r8 .A, m16 .HL]
  | 0x7#4 => other .ADD 1 [4] [r8 .A, r8 .A]
  | 0x8#4 => other .ADC 1 [4] [r8 .A, r8 .B]
  | 0x9#4 => other .ADC 1 [4] [r8 .A, r8 .C]
  | 0xA#4 => other .ADC 1 [4] [r8 .A, r8 .D]
  | 0xB#4 => other .ADC 1 [4] [r8 .A, r8 .E]
  | 0xC#4 => other .ADC 1 [4] [r8 .A, r8 .H]
  | 0xD#4 => other .ADC 1 [4] [r8 .A, r8 .L]
  | 0xE#4 => other .ADC 1 [8] [r8 .A, m16 .HL]
  | _     => other .ADC 1 [4] [r8 .A, r8 .A]

/-- Row 9x of the opcode map (R60 to R62, R64). -/
def row9 (lo : BitVec 4) : InstructionSpec :=
  match lo with
  | 0x0#4 => other .SUB 1 [4] [r8 .A, r8 .B]
  | 0x1#4 => other .SUB 1 [4] [r8 .A, r8 .C]
  | 0x2#4 => other .SUB 1 [4] [r8 .A, r8 .D]
  | 0x3#4 => other .SUB 1 [4] [r8 .A, r8 .E]
  | 0x4#4 => other .SUB 1 [4] [r8 .A, r8 .H]
  | 0x5#4 => other .SUB 1 [4] [r8 .A, r8 .L]
  | 0x6#4 => other .SUB 1 [8] [r8 .A, m16 .HL]
  | 0x7#4 => other .SUB 1 [4] [r8 .A, r8 .A]
  | 0x8#4 => other .SBC 1 [4] [r8 .A, r8 .B]
  | 0x9#4 => other .SBC 1 [4] [r8 .A, r8 .C]
  | 0xA#4 => other .SBC 1 [4] [r8 .A, r8 .D]
  | 0xB#4 => other .SBC 1 [4] [r8 .A, r8 .E]
  | 0xC#4 => other .SBC 1 [4] [r8 .A, r8 .H]
  | 0xD#4 => other .SBC 1 [4] [r8 .A, r8 .L]
  | 0xE#4 => other .SBC 1 [8] [r8 .A, m16 .HL]
  | _     => other .SBC 1 [4] [r8 .A, r8 .A]

/-- Row Ax of the opcode map (R60 to R62, R64). -/
def rowA (lo : BitVec 4) : InstructionSpec :=
  match lo with
  | 0x0#4 => other .AND 1 [4] [r8 .A, r8 .B]
  | 0x1#4 => other .AND 1 [4] [r8 .A, r8 .C]
  | 0x2#4 => other .AND 1 [4] [r8 .A, r8 .D]
  | 0x3#4 => other .AND 1 [4] [r8 .A, r8 .E]
  | 0x4#4 => other .AND 1 [4] [r8 .A, r8 .H]
  | 0x5#4 => other .AND 1 [4] [r8 .A, r8 .L]
  | 0x6#4 => other .AND 1 [8] [r8 .A, m16 .HL]
  | 0x7#4 => other .AND 1 [4] [r8 .A, r8 .A]
  | 0x8#4 => other .XOR 1 [4] [r8 .A, r8 .B]
  | 0x9#4 => other .XOR 1 [4] [r8 .A, r8 .C]
  | 0xA#4 => other .XOR 1 [4] [r8 .A, r8 .D]
  | 0xB#4 => other .XOR 1 [4] [r8 .A, r8 .E]
  | 0xC#4 => other .XOR 1 [4] [r8 .A, r8 .H]
  | 0xD#4 => other .XOR 1 [4] [r8 .A, r8 .L]
  | 0xE#4 => other .XOR 1 [8] [r8 .A, m16 .HL]
  | _     => other .XOR 1 [4] [r8 .A, r8 .A]

/-- Row Bx of the opcode map (R60 to R62, R64). -/
def rowB (lo : BitVec 4) : InstructionSpec :=
  match lo with
  | 0x0#4 => other .OR 1 [4] [r8 .A, r8 .B]
  | 0x1#4 => other .OR 1 [4] [r8 .A, r8 .C]
  | 0x2#4 => other .OR 1 [4] [r8 .A, r8 .D]
  | 0x3#4 => other .OR 1 [4] [r8 .A, r8 .E]
  | 0x4#4 => other .OR 1 [4] [r8 .A, r8 .H]
  | 0x5#4 => other .OR 1 [4] [r8 .A, r8 .L]
  | 0x6#4 => other .OR 1 [8] [r8 .A, m16 .HL]
  | 0x7#4 => other .OR 1 [4] [r8 .A, r8 .A]
  | 0x8#4 => other .CP 1 [4] [r8 .A, r8 .B]
  | 0x9#4 => other .CP 1 [4] [r8 .A, r8 .C]
  | 0xA#4 => other .CP 1 [4] [r8 .A, r8 .D]
  | 0xB#4 => other .CP 1 [4] [r8 .A, r8 .E]
  | 0xC#4 => other .CP 1 [4] [r8 .A, r8 .H]
  | 0xD#4 => other .CP 1 [4] [r8 .A, r8 .L]
  | 0xE#4 => other .CP 1 [8] [r8 .A, m16 .HL]
  | _     => other .CP 1 [4] [r8 .A, r8 .A]

/-- Row Cx of the opcode map (R60 to R62, R64). -/
def rowC (lo : BitVec 4) : InstructionSpec :=
  match lo with
  | 0x0#4 => other .RET 1 [20, 8] [cond .NZ]
  | 0x1#4 => other .POP 1 [12] [r16 .BC]
  | 0x2#4 => exe .JP 3 [16, 12] [cond .NZ, n16]
  | 0x3#4 => exe .JP 3 [16] [n16]
  | 0x4#4 => exe .CALL 3 [24, 12] [cond .NZ, n16]
  | 0x5#4 => exe .PUSH 1 [16] [r16 .BC]
  | 0x6#4 => other .ADD 2 [8] [r8 .A, n8]
  | 0x7#4 => exe .RST 1 [16] [vec 0x0000]
  | 0x8#4 => other .RET 1 [20, 8] [cond .Z]
  | 0x9#4 => other .RET 1 [16] []
  | 0xA#4 => exe .JP 3 [16, 12] [cond .Z, n16]
  | 0xB#4 => other .PREFIX 1 [4] []
  | 0xC#4 => exe .CALL 3 [24, 12] [cond .Z, n16]
  | 0xD#4 => exe .CALL 3 [24] [n16]
  | 0xE#4 => other .ADC 2 [8] [r8 .A, n8]
  | _     => exe .RST 1 [16] [vec 0x0008]

/-- Row Dx of the opcode map (R60 to R62, R64). -/
def rowD (lo : BitVec 4) : InstructionSpec :=
  match lo with
  | 0x0#4 => other .RET 1 [20, 8] [cond .NC]
  | 0x1#4 => other .POP 1 [12] [r16 .DE]
  | 0x2#4 => exe .JP 3 [16, 12] [cond .NC, n16]
  | 0x3#4 => illegal
  | 0x4#4 => exe .CALL 3 [24, 12] [cond .NC, n16]
  | 0x5#4 => exe .PUSH 1 [16] [r16 .DE]
  | 0x6#4 => other .SUB 2 [8] [r8 .A, n8]
  | 0x7#4 => exe .RST 1 [16] [vec 0x0010]
  | 0x8#4 => other .RET 1 [20, 8] [cond .C]
  | 0x9#4 => other .RETI 1 [16] []
  | 0xA#4 => exe .JP 3 [16, 12] [cond .C, n16]
  | 0xB#4 => illegal
  | 0xC#4 => exe .CALL 3 [24, 12] [cond .C, n16]
  | 0xD#4 => illegal
  | 0xE#4 => other .SBC 2 [8] [r8 .A, n8]
  | _     => exe .RST 1 [16] [vec 0x0018]

/-- Row Ex of the opcode map (R60 to R62, R64). -/
def rowE (lo : BitVec 4) : InstructionSpec :=
  match lo with
  | 0x0#4 => exe .LDH 2 [12] [mA8, r8 .A]
  | 0x1#4 => other .POP 1 [12] [r16 .HL]
  | 0x2#4 => exe .LDH 1 [8] [mC, r8 .A]
  | 0x3#4 => illegal
  | 0x4#4 => illegal
  | 0x5#4 => exe .PUSH 1 [16] [r16 .HL]
  | 0x6#4 => other .AND 2 [8] [r8 .A, n8]
  | 0x7#4 => exe .RST 1 [16] [vec 0x0020]
  | 0x8#4 => other .ADD 2 [16] [r16 .SP, e8]
  | 0x9#4 => exe .JP 1 [4] [r16 .HL]
  | 0xA#4 => exe .LD 3 [16] [mA16, r8 .A]
  | 0xB#4 => illegal
  | 0xC#4 => illegal
  | 0xD#4 => illegal
  | 0xE#4 => other .XOR 2 [8] [r8 .A, n8]
  | _     => exe .RST 1 [16] [vec 0x0028]

/-- Row Fx of the opcode map (R60 to R62, R64). -/
def rowF (lo : BitVec 4) : InstructionSpec :=
  match lo with
  | 0x0#4 => exe .LDH 2 [12] [r8 .A, mA8]
  | 0x1#4 => other .POP 1 [12] [r16 .AF]
  | 0x2#4 => exe .LDH 1 [8] [r8 .A, mC]
  | 0x3#4 => other .DI 1 [4] []
  | 0x4#4 => illegal
  | 0x5#4 => exe .PUSH 1 [16] [r16 .AF]
  | 0x6#4 => other .OR 2 [8] [r8 .A, n8]
  | 0x7#4 => exe .RST 1 [16] [vec 0x0030]
  | 0x8#4 => ⟨.LD, 2, [12], [r16 .HL, r16 .SP, e8], some .spE8⟩
  | 0x9#4 => exe .LD 1 [8] [r16 .SP, r16 .HL]
  | 0xA#4 => exe .LD 3 [16] [r8 .A, mA16]
  | 0xB#4 => other .EI 1 [4] []
  | 0xC#4 => illegal
  | 0xD#4 => illegal
  | 0xE#4 => other .CP 2 [8] [r8 .A, n8]
  | _     => exe .RST 1 [16] [vec 0x0038]

/-- The unprefixed half: the row by the high digit, the column by the low digit (R60). -/
def unprefixed (opcode : Byte) : InstructionSpec :=
  match hiNibble opcode with
  | 0x0#4 => row0 (loNibble opcode)
  | 0x1#4 => row1 (loNibble opcode)
  | 0x2#4 => row2 (loNibble opcode)
  | 0x3#4 => row3 (loNibble opcode)
  | 0x4#4 => row4 (loNibble opcode)
  | 0x5#4 => row5 (loNibble opcode)
  | 0x6#4 => row6 (loNibble opcode)
  | 0x7#4 => row7 (loNibble opcode)
  | 0x8#4 => row8 (loNibble opcode)
  | 0x9#4 => row9 (loNibble opcode)
  | 0xA#4 => rowA (loNibble opcode)
  | 0xB#4 => rowB (loNibble opcode)
  | 0xC#4 => rowC (loNibble opcode)
  | 0xD#4 => rowD (loNibble opcode)
  | 0xE#4 => rowE (loNibble opcode)
  | _     => rowF (loNibble opcode)

/-- The mnemonic of a prefixed opcode with `x = 0`, by `y` (R63). -/
def shiftMnemonic (y : BitVec 3) : Mnemonic :=
  match y with
  | 0#3 => .RLC
  | 1#3 => .RRC
  | 2#3 => .RL
  | 3#3 => .RR
  | 4#3 => .SLA
  | 5#3 => .SRA
  | 6#3 => .SWAP
  | _ => .SRL

/-- The operand of an 8-bit operand code (R53). -/
def operand8 (code : BitVec 3) : Operand8 :=
  match code with
  | 0#3 => .B
  | 1#3 => .C
  | 2#3 => .D
  | 3#3 => .E
  | 4#3 => .H
  | 5#3 => .L
  | 6#3 => .mHL
  | _ => .A

/-- The prefixed half, by the fields of the second byte (R63); a key's one cost is the register or the `(HL)`
number of its pattern row (R68). -/
def cbPrefixed (opcode : Byte) : InstructionSpec :=
  let r := operand8 (fieldZ opcode)
  let cost := if r = .mHL then 16 else 8
  match fieldX opcode with
  | 0#2 => other (shiftMnemonic (fieldY opcode)) 2 [cost] [ofOperand8 r]
  | 1#2 => other .BIT 2 [if r = .mHL then 12 else 8] [bit3 (fieldY opcode), ofOperand8 r]
  | 2#2 => other .RES 2 [cost] [bit3 (fieldY opcode), ofOperand8 r]
  | _ => other .SET 2 [cost] [bit3 (fieldY opcode), ofOperand8 r]

/-- The 512 keys (R58). -/
def keys : List (Bool × Byte) :=
  (List.range 256).map (fun n => (false, BitVec.ofNat 8 n)) ++ (List.range 256).map (fun n => (true, BitVec.ofNat 8 n))

/-- The first key whose entry is not well formed, if there is one: what CATALOG_INTEGRITY reports (R161, R166).
DESIGN CHOICE (log 27): R161 says only that the key is recorded; of several the model takes the lowest unprefixed one,
else the lowest prefixed one. -/
def firstBad (cat : Catalog) : Option (Bool × Byte) :=
  keys.find? fun k => !(cat k.1 k.2).wf k.1 k.2

end Catalog

/-- The default `CATALOG` (R7): total over the 512 keys (R58). -/
def defaultCatalog : Catalog := fun isPrefixed opcode =>
  if isPrefixed then Catalog.cbPrefixed opcode else Catalog.unprefixed opcode

end Sys2Proof
end

