-- ==== Sys2Proof/WellFormed.lean ====
section
/-! DEFINITION. Which terms of `Instr` are instructions some bytes encode. -/

namespace Sys2Proof

/-- Every constructor is well formed at every operand, but `prefixCB`: the entry at key `(false, 0xCB)` exists
for totality and the decoder never looks it up (30_encoding.md R64, decision D24; log 18).  Operand codes and
immediates have no reserved value (R62). -/
def Instr.wellFormed (i : Instr) : Bool := decide (i ≠ .prefixCB)

end Sys2Proof
end

