-- ==== Sys2Proof/Decode.lean ====
section
/-! DEFINITION. Decoding and encoding.  The decoder reads the opcode map of 30_encoding.md R60 to R63 row by
row and assembles the immediates (R57); the encoder writes the bit patterns of R51 to R56, R60 to R63. -/

namespace Sys2Proof

/-! ## Operand codes (R53 to R56) -/

/-- R53. -/
def Gpr.code : Gpr → BitVec 3
  | .B => 0 | .C => 1 | .D => 2 | .E => 3 | .H => 4 | .L => 5 | .A => 7

/-- R53, code 6 included. -/
def Operand8.code : Operand8 → BitVec 3
  | .B => 0 | .C => 1 | .D => 2 | .E => 3 | .H => 4 | .L => 5 | .mHL => 6 | .A => 7

/-- R54, table `r16`. -/
def PairSP.code : PairSP → BitVec 2
  | .BC => 0 | .DE => 1 | .HL => 2 | .SP => 3

/-- R54, table `r16stk`. -/
def PairAF.code : PairAF → BitVec 2
  | .BC => 0 | .DE => 1 | .HL => 2 | .AF => 3

/-- R55. -/
def Cond.code : Cond → BitVec 2
  | .NZ => 0 | .Z => 1 | .NC => 2 | .C => 3

/-- The restart vector of field `t`: `zext_16(t * 8)` (R56). -/
def vectorOf (t : BitVec 3) : Word := t.setWidth 16 <<< 3

/-! ## Decoding -/

/-- The prefixed set by the fields of the second byte (R63). -/
def decodeCB (b1 : Byte) : Instr :=
  let r := Catalog.operand8 (fieldZ b1)
  match fieldX b1 with
  | 0#2 =>
    match fieldY b1 with
    | 0#3 => .rlc r
    | 1#3 => .rrc r
    | 2#3 => .rl r
    | 3#3 => .rr r
    | 4#3 => .sla r
    | 5#3 => .sra r
    | 6#3 => .swap r
    | _ => .srl r
  | 1#2 => .bit (fieldY b1) r
  | 2#2 => .res (fieldY b1) r
  | _ => .set (fieldY b1) r

/-- Row 0x of the opcode map (R60 to R62). -/
def decodeRow0 (lo : BitVec 4) (b1 b2 : Byte) : Instr :=
  match lo with
  | 0x0#4 => .nop
  | 0x1#4 => .ld_BC_n16 (pair b2 b1)
  | 0x2#4 => .ld_mBC_A
  | 0x3#4 => .inc_BC
  | 0x4#4 => .inc_B
  | 0x5#4 => .dec_B
  | 0x6#4 => .ld_B_n8 b1
  | 0x7#4 => .rlca
  | 0x8#4 => .ld_ma16_SP (pair b2 b1)
  | 0x9#4 => .add_HL_BC
  | 0xA#4 => .ld_A_mBC
  | 0xB#4 => .dec_BC
  | 0xC#4 => .inc_C
  | 0xD#4 => .dec_C
  | 0xE#4 => .ld_C_n8 b1
  | _     => .rrca

/-- Row 1x of the opcode map (R60 to R62). -/
def decodeRow1 (lo : BitVec 4) (b1 b2 : Byte) : Instr :=
  match lo with
  | 0x0#4 => .stop_n8 b1
  | 0x1#4 => .ld_DE_n16 (pair b2 b1)
  | 0x2#4 => .ld_mDE_A
  | 0x3#4 => .inc_DE
  | 0x4#4 => .inc_D
  | 0x5#4 => .dec_D
  | 0x6#4 => .ld_D_n8 b1
  | 0x7#4 => .rla
  | 0x8#4 => .jr_e8 b1
  | 0x9#4 => .add_HL_DE
  | 0xA#4 => .ld_A_mDE
  | 0xB#4 => .dec_DE
  | 0xC#4 => .inc_E
  | 0xD#4 => .dec_E
  | 0xE#4 => .ld_E_n8 b1
  | _     => .rra

/-- Row 2x of the opcode map (R60 to R62). -/
def decodeRow2 (lo : BitVec 4) (b1 b2 : Byte) : Instr :=
  match lo with
  | 0x0#4 => .jr_NZ_e8 b1
  | 0x1#4 => .ld_HL_n16 (pair b2 b1)
  | 0x2#4 => .ld_mHLi_A
  | 0x3#4 => .inc_HL
  | 0x4#4 => .inc_H
  | 0x5#4 => .dec_H
  | 0x6#4 => .ld_H_n8 b1
  | 0x7#4 => .daa
  | 0x8#4 => .jr_Z_e8 b1
  | 0x9#4 => .add_HL_HL
  | 0xA#4 => .ld_A_mHLi
  | 0xB#4 => .dec_HL
  | 0xC#4 => .inc_L
  | 0xD#4 => .dec_L
  | 0xE#4 => .ld_L_n8 b1
  | _     => .cpl

/-- Row 3x of the opcode map (R60 to R62). -/
def decodeRow3 (lo : BitVec 4) (b1 b2 : Byte) : Instr :=
  match lo with
  | 0x0#4 => .jr_NC_e8 b1
  | 0x1#4 => .ld_SP_n16 (pair b2 b1)
  | 0x2#4 => .ld_mHLd_A
  | 0x3#4 => .inc_SP
  | 0x4#4 => .inc_mHL
  | 0x5#4 => .dec_mHL
  | 0x6#4 => .ld_mHL_n8 b1
  | 0x7#4 => .scf
  | 0x8#4 => .jr_C_e8 b1
  | 0x9#4 => .add_HL_SP
  | 0xA#4 => .ld_A_mHLd
  | 0xB#4 => .dec_SP
  | 0xC#4 => .inc_A
  | 0xD#4 => .dec_A
  | 0xE#4 => .ld_A_n8 b1
  | _     => .ccf

/-- Row 4x of the opcode map (R60 to R62). -/
def decodeRow4 (lo : BitVec 4) : Instr :=
  match lo with
  | 0x0#4 => .ld_B_B
  | 0x1#4 => .ld_B_C
  | 0x2#4 => .ld_B_D
  | 0x3#4 => .ld_B_E
  | 0x4#4 => .ld_B_H
  | 0x5#4 => .ld_B_L
  | 0x6#4 => .ld_B_mHL
  | 0x7#4 => .ld_B_A
  | 0x8#4 => .ld_C_B
  | 0x9#4 => .ld_C_C
  | 0xA#4 => .ld_C_D
  | 0xB#4 => .ld_C_E
  | 0xC#4 => .ld_C_H
  | 0xD#4 => .ld_C_L
  | 0xE#4 => .ld_C_mHL
  | _     => .ld_C_A

/-- Row 5x of the opcode map (R60 to R62). -/
def decodeRow5 (lo : BitVec 4) : Instr :=
  match lo with
  | 0x0#4 => .ld_D_B
  | 0x1#4 => .ld_D_C
  | 0x2#4 => .ld_D_D
  | 0x3#4 => .ld_D_E
  | 0x4#4 => .ld_D_H
  | 0x5#4 => .ld_D_L
  | 0x6#4 => .ld_D_mHL
  | 0x7#4 => .ld_D_A
  | 0x8#4 => .ld_E_B
  | 0x9#4 => .ld_E_C
  | 0xA#4 => .ld_E_D
  | 0xB#4 => .ld_E_E
  | 0xC#4 => .ld_E_H
  | 0xD#4 => .ld_E_L
  | 0xE#4 => .ld_E_mHL
  | _     => .ld_E_A

/-- Row 6x of the opcode map (R60 to R62). -/
def decodeRow6 (lo : BitVec 4) : Instr :=
  match lo with
  | 0x0#4 => .ld_H_B
  | 0x1#4 => .ld_H_C
  | 0x2#4 => .ld_H_D
  | 0x3#4 => .ld_H_E
  | 0x4#4 => .ld_H_H
  | 0x5#4 => .ld_H_L
  | 0x6#4 => .ld_H_mHL
  | 0x7#4 => .ld_H_A
  | 0x8#4 => .ld_L_B
  | 0x9#4 => .ld_L_C
  | 0xA#4 => .ld_L_D
  | 0xB#4 => .ld_L_E
  | 0xC#4 => .ld_L_H
  | 0xD#4 => .ld_L_L
  | 0xE#4 => .ld_L_mHL
  | _     => .ld_L_A

/-- Row 7x of the opcode map (R60 to R62). -/
def decodeRow7 (lo : BitVec 4) : Instr :=
  match lo with
  | 0x0#4 => .ld_mHL_B
  | 0x1#4 => .ld_mHL_C
  | 0x2#4 => .ld_mHL_D
  | 0x3#4 => .ld_mHL_E
  | 0x4#4 => .ld_mHL_H
  | 0x5#4 => .ld_mHL_L
  | 0x6#4 => .halt
  | 0x7#4 => .ld_mHL_A
  | 0x8#4 => .ld_A_B
  | 0x9#4 => .ld_A_C
  | 0xA#4 => .ld_A_D
  | 0xB#4 => .ld_A_E
  | 0xC#4 => .ld_A_H
  | 0xD#4 => .ld_A_L
  | 0xE#4 => .ld_A_mHL
  | _     => .ld_A_A

/-- Row 8x of the opcode map (R60 to R62). -/
def decodeRow8 (lo : BitVec 4) : Instr :=
  match lo with
  | 0x0#4 => .add_A_B
  | 0x1#4 => .add_A_C
  | 0x2#4 => .add_A_D
  | 0x3#4 => .add_A_E
  | 0x4#4 => .add_A_H
  | 0x5#4 => .add_A_L
  | 0x6#4 => .add_A_mHL
  | 0x7#4 => .add_A_A
  | 0x8#4 => .adc_A_B
  | 0x9#4 => .adc_A_C
  | 0xA#4 => .adc_A_D
  | 0xB#4 => .adc_A_E
  | 0xC#4 => .adc_A_H
  | 0xD#4 => .adc_A_L
  | 0xE#4 => .adc_A_mHL
  | _     => .adc_A_A

/-- Row 9x of the opcode map (R60 to R62). -/
def decodeRow9 (lo : BitVec 4) : Instr :=
  match lo with
  | 0x0#4 => .sub_A_B
  | 0x1#4 => .sub_A_C
  | 0x2#4 => .sub_A_D
  | 0x3#4 => .sub_A_E
  | 0x4#4 => .sub_A_H
  | 0x5#4 => .sub_A_L
  | 0x6#4 => .sub_A_mHL
  | 0x7#4 => .sub_A_A
  | 0x8#4 => .sbc_A_B
  | 0x9#4 => .sbc_A_C
  | 0xA#4 => .sbc_A_D
  | 0xB#4 => .sbc_A_E
  | 0xC#4 => .sbc_A_H
  | 0xD#4 => .sbc_A_L
  | 0xE#4 => .sbc_A_mHL
  | _     => .sbc_A_A

/-- Row Ax of the opcode map (R60 to R62). -/
def decodeRowA (lo : BitVec 4) : Instr :=
  match lo with
  | 0x0#4 => .and_A_B
  | 0x1#4 => .and_A_C
  | 0x2#4 => .and_A_D
  | 0x3#4 => .and_A_E
  | 0x4#4 => .and_A_H
  | 0x5#4 => .and_A_L
  | 0x6#4 => .and_A_mHL
  | 0x7#4 => .and_A_A
  | 0x8#4 => .xor_A_B
  | 0x9#4 => .xor_A_C
  | 0xA#4 => .xor_A_D
  | 0xB#4 => .xor_A_E
  | 0xC#4 => .xor_A_H
  | 0xD#4 => .xor_A_L
  | 0xE#4 => .xor_A_mHL
  | _     => .xor_A_A

/-- Row Bx of the opcode map (R60 to R62). -/
def decodeRowB (lo : BitVec 4) : Instr :=
  match lo with
  | 0x0#4 => .or_A_B
  | 0x1#4 => .or_A_C
  | 0x2#4 => .or_A_D
  | 0x3#4 => .or_A_E
  | 0x4#4 => .or_A_H
  | 0x5#4 => .or_A_L
  | 0x6#4 => .or_A_mHL
  | 0x7#4 => .or_A_A
  | 0x8#4 => .cp_A_B
  | 0x9#4 => .cp_A_C
  | 0xA#4 => .cp_A_D
  | 0xB#4 => .cp_A_E
  | 0xC#4 => .cp_A_H
  | 0xD#4 => .cp_A_L
  | 0xE#4 => .cp_A_mHL
  | _     => .cp_A_A

/-- Row Cx of the opcode map (R60 to R62, R64). -/
def decodeRowC (lo : BitVec 4) (b1 b2 : Byte) : Instr :=
  match lo with
  | 0x0#4 => .ret_NZ
  | 0x1#4 => .pop_BC
  | 0x2#4 => .jp_NZ_a16 (pair b2 b1)
  | 0x3#4 => .jp_a16 (pair b2 b1)
  | 0x4#4 => .call_NZ_a16 (pair b2 b1)
  | 0x5#4 => .push_BC
  | 0x6#4 => .add_A_n8 b1
  | 0x7#4 => .rst_00
  | 0x8#4 => .ret_Z
  | 0x9#4 => .ret
  | 0xA#4 => .jp_Z_a16 (pair b2 b1)
  | 0xB#4 => decodeCB b1
  | 0xC#4 => .call_Z_a16 (pair b2 b1)
  | 0xD#4 => .call_a16 (pair b2 b1)
  | 0xE#4 => .adc_A_n8 b1
  | _     => .rst_08

/-- Row Dx of the opcode map (R60 to R62). -/
def decodeRowD (lo : BitVec 4) (b1 b2 : Byte) : Instr :=
  match lo with
  | 0x0#4 => .ret_NC
  | 0x1#4 => .pop_DE
  | 0x2#4 => .jp_NC_a16 (pair b2 b1)
  | 0x3#4 => .illegal_D3
  | 0x4#4 => .call_NC_a16 (pair b2 b1)
  | 0x5#4 => .push_DE
  | 0x6#4 => .sub_A_n8 b1
  | 0x7#4 => .rst_10
  | 0x8#4 => .ret_C
  | 0x9#4 => .reti
  | 0xA#4 => .jp_C_a16 (pair b2 b1)
  | 0xB#4 => .illegal_DB
  | 0xC#4 => .call_C_a16 (pair b2 b1)
  | 0xD#4 => .illegal_DD
  | 0xE#4 => .sbc_A_n8 b1
  | _     => .rst_18

/-- Row Ex of the opcode map (R60 to R62). -/
def decodeRowE (lo : BitVec 4) (b1 b2 : Byte) : Instr :=
  match lo with
  | 0x0#4 => .ldh_ma8_A b1
  | 0x1#4 => .pop_HL
  | 0x2#4 => .ldh_mC_A
  | 0x3#4 => .illegal_E3
  | 0x4#4 => .illegal_E4
  | 0x5#4 => .push_HL
  | 0x6#4 => .and_A_n8 b1
  | 0x7#4 => .rst_20
  | 0x8#4 => .add_SP_e8 b1
  | 0x9#4 => .jp_HL
  | 0xA#4 => .ld_ma16_A (pair b2 b1)
  | 0xB#4 => .illegal_EB
  | 0xC#4 => .illegal_EC
  | 0xD#4 => .illegal_ED
  | 0xE#4 => .xor_A_n8 b1
  | _     => .rst_28

/-- Row Fx of the opcode map (R60 to R62). -/
def decodeRowF (lo : BitVec 4) (b1 b2 : Byte) : Instr :=
  match lo with
  | 0x0#4 => .ldh_A_ma8 b1
  | 0x1#4 => .pop_AF
  | 0x2#4 => .ldh_A_mC
  | 0x3#4 => .di
  | 0x4#4 => .illegal_F4
  | 0x5#4 => .push_AF
  | 0x6#4 => .or_A_n8 b1
  | 0x7#4 => .rst_30
  | 0x8#4 => .ld_HL_SPe8 b1
  | 0x9#4 => .ld_SP_HL
  | 0xA#4 => .ld_A_ma16 (pair b2 b1)
  | 0xB#4 => .ei
  | 0xC#4 => .illegal_FC
  | 0xD#4 => .illegal_FD
  | 0xE#4 => .cp_A_n8 b1
  | _     => .rst_38

/-- The instruction whose bytes are `b0`, `b1`, `b2`; bytes past its length are not used.  `0xCB` makes `b1` the
opcode of the second set, once (R64, 40_step_decode_resolve.md R72). -/
def decode3 (b0 b1 b2 : Byte) : Instr :=
  match hiNibble b0 with
  | 0x0#4 => decodeRow0 (loNibble b0) b1 b2
  | 0x1#4 => decodeRow1 (loNibble b0) b1 b2
  | 0x2#4 => decodeRow2 (loNibble b0) b1 b2
  | 0x3#4 => decodeRow3 (loNibble b0) b1 b2
  | 0x4#4 => decodeRow4 (loNibble b0)
  | 0x5#4 => decodeRow5 (loNibble b0)
  | 0x6#4 => decodeRow6 (loNibble b0)
  | 0x7#4 => decodeRow7 (loNibble b0)
  | 0x8#4 => decodeRow8 (loNibble b0)
  | 0x9#4 => decodeRow9 (loNibble b0)
  | 0xA#4 => decodeRowA (loNibble b0)
  | 0xB#4 => decodeRowB (loNibble b0)
  | 0xC#4 => decodeRowC (loNibble b0) b1 b2
  | 0xD#4 => decodeRowD (loNibble b0) b1 b2
  | 0xE#4 => decodeRowE (loNibble b0) b1 b2
  | _     => decodeRowF (loNibble b0) b1 b2

/-- The length the decoder tells from the first byte: 2 behind the prefix, else the catalog's `length` (R50, R64). -/
def lengthOf (b0 : Byte) : Nat :=
  if b0 = 0xCB then 2 else (defaultCatalog false b0).length

/-- Why a byte list is not an instruction: it ends inside one.  There is no undefined encoding left: every first
byte, and behind `0xCB` every second byte, has a catalog entry (R58, R62). -/
inductive DecodeError where
  /-- The list is empty. -/
  | empty
  /-- The instruction has `need` bytes and the list only `have_`. -/
  | truncated (need have_ : Nat)
  deriving DecidableEq, Repr

/-- Decode the first instruction of a byte list, with the bytes after it. -/
def decode (bytes : List Byte) : Except DecodeError (Instr × List Byte) :=
  match bytes with
  | [] => .error .empty
  | b0 :: rest =>
    let need := lengthOf b0
    if bytes.length < need then .error (.truncated need bytes.length)
    else .ok (decode3 b0 (rest.getD 0 0) (rest.getD 1 0), bytes.drop need)

/-! ## Encoding -/

/-- `0x01`-style patterns with a 16-bit immediate, low byte first (R51, R57). -/
def withImm16 (b0 : Byte) (n16 : Word) : List Byte := [b0, loByte n16, hiByte n16]

/-- A prefixed instruction (R51 format `CB`, R63). -/
def prefixedWord (x : BitVec 2) (y : BitVec 3) (r : Operand8) : List Byte := [0xCB, byteXYZ x y r.code]

/-- The bytes of an instruction, from the bit patterns of R60 to R63. -/
def encode (i : Instr) : List Byte :=
  match i with
  | .nop => [0x00]
  | .ld_BC_n16 n16 => withImm16 (byteXPQZ 0b00 (PairSP.code .BC) 0 0b001) n16
  | .ld_mBC_A => [0x02]
  | .ld_B_n8 n8 => [byteXYZ 0b00 (Gpr.code .B) 0b110, n8]
  | .ld_ma16_SP a16 => withImm16 0x08 a16
  | .ld_A_mBC => [0x0A]
  | .ld_C_n8 n8 => [byteXYZ 0b00 (Gpr.code .C) 0b110, n8]
  | .ld_DE_n16 n16 => withImm16 (byteXPQZ 0b00 (PairSP.code .DE) 0 0b001) n16
  | .ld_mDE_A => [0x12]
  | .ld_D_n8 n8 => [byteXYZ 0b00 (Gpr.code .D) 0b110, n8]
  | .jr_e8 e8 => [0x18, e8]
  | .ld_A_mDE => [0x1A]
  | .ld_E_n8 n8 => [byteXYZ 0b00 (Gpr.code .E) 0b110, n8]
  | .jr_NZ_e8 e8 => [byteXYZ 0b00 (0b1#1 ++ Cond.code .NZ) 0b000, e8]
  | .ld_HL_n16 n16 => withImm16 (byteXPQZ 0b00 (PairSP.code .HL) 0 0b001) n16
  | .ld_mHLi_A => [0x22]
  | .ld_H_n8 n8 => [byteXYZ 0b00 (Gpr.code .H) 0b110, n8]
  | .jr_Z_e8 e8 => [byteXYZ 0b00 (0b1#1 ++ Cond.code .Z) 0b000, e8]
  | .ld_A_mHLi => [0x2A]
  | .ld_L_n8 n8 => [byteXYZ 0b00 (Gpr.code .L) 0b110, n8]
  | .jr_NC_e8 e8 => [byteXYZ 0b00 (0b1#1 ++ Cond.code .NC) 0b000, e8]
  | .ld_SP_n16 n16 => withImm16 (byteXPQZ 0b00 (PairSP.code .SP) 0 0b001) n16
  | .ld_mHLd_A => [0x32]
  | .ld_mHL_n8 n8 => [byteXYZ 0b00 0b110 0b110, n8]
  | .jr_C_e8 e8 => [byteXYZ 0b00 (0b1#1 ++ Cond.code .C) 0b000, e8]
  | .ld_A_mHLd => [0x3A]
  | .ld_A_n8 n8 => [byteXYZ 0b00 (Gpr.code .A) 0b110, n8]
  | .ld_B_B => [byteXYZ 0b01 (Gpr.code .B) (Gpr.code .B)]
  | .ld_B_C => [byteXYZ 0b01 (Gpr.code .B) (Gpr.code .C)]
  | .ld_B_D => [byteXYZ 0b01 (Gpr.code .B) (Gpr.code .D)]
  | .ld_B_E => [byteXYZ 0b01 (Gpr.code .B) (Gpr.code .E)]
  | .ld_B_H => [byteXYZ 0b01 (Gpr.code .B) (Gpr.code .H)]
  | .ld_B_L => [byteXYZ 0b01 (Gpr.code .B) (Gpr.code .L)]
  | .ld_B_mHL => [byteXYZ 0b01 (Gpr.code .B) 0b110]
  | .ld_B_A => [byteXYZ 0b01 (Gpr.code .B) (Gpr.code .A)]
  | .ld_C_B => [byteXYZ 0b01 (Gpr.code .C) (Gpr.code .B)]
  | .ld_C_C => [byteXYZ 0b01 (Gpr.code .C) (Gpr.code .C)]
  | .ld_C_D => [byteXYZ 0b01 (Gpr.code .C) (Gpr.code .D)]
  | .ld_C_E => [byteXYZ 0b01 (Gpr.code .C) (Gpr.code .E)]
  | .ld_C_H => [byteXYZ 0b01 (Gpr.code .C) (Gpr.code .H)]
  | .ld_C_L => [byteXYZ 0b01 (Gpr.code .C) (Gpr.code .L)]
  | .ld_C_mHL => [byteXYZ 0b01 (Gpr.code .C) 0b110]
  | .ld_C_A => [byteXYZ 0b01 (Gpr.code .C) (Gpr.code .A)]
  | .ld_D_B => [byteXYZ 0b01 (Gpr.code .D) (Gpr.code .B)]
  | .ld_D_C => [byteXYZ 0b01 (Gpr.code .D) (Gpr.code .C)]
  | .ld_D_D => [byteXYZ 0b01 (Gpr.code .D) (Gpr.code .D)]
  | .ld_D_E => [byteXYZ 0b01 (Gpr.code .D) (Gpr.code .E)]
  | .ld_D_H => [byteXYZ 0b01 (Gpr.code .D) (Gpr.code .H)]
  | .ld_D_L => [byteXYZ 0b01 (Gpr.code .D) (Gpr.code .L)]
  | .ld_D_mHL => [byteXYZ 0b01 (Gpr.code .D) 0b110]
  | .ld_D_A => [byteXYZ 0b01 (Gpr.code .D) (Gpr.code .A)]
  | .ld_E_B => [byteXYZ 0b01 (Gpr.code .E) (Gpr.code .B)]
  | .ld_E_C => [byteXYZ 0b01 (Gpr.code .E) (Gpr.code .C)]
  | .ld_E_D => [byteXYZ 0b01 (Gpr.code .E) (Gpr.code .D)]
  | .ld_E_E => [byteXYZ 0b01 (Gpr.code .E) (Gpr.code .E)]
  | .ld_E_H => [byteXYZ 0b01 (Gpr.code .E) (Gpr.code .H)]
  | .ld_E_L => [byteXYZ 0b01 (Gpr.code .E) (Gpr.code .L)]
  | .ld_E_mHL => [byteXYZ 0b01 (Gpr.code .E) 0b110]
  | .ld_E_A => [byteXYZ 0b01 (Gpr.code .E) (Gpr.code .A)]
  | .ld_H_B => [byteXYZ 0b01 (Gpr.code .H) (Gpr.code .B)]
  | .ld_H_C => [byteXYZ 0b01 (Gpr.code .H) (Gpr.code .C)]
  | .ld_H_D => [byteXYZ 0b01 (Gpr.code .H) (Gpr.code .D)]
  | .ld_H_E => [byteXYZ 0b01 (Gpr.code .H) (Gpr.code .E)]
  | .ld_H_H => [byteXYZ 0b01 (Gpr.code .H) (Gpr.code .H)]
  | .ld_H_L => [byteXYZ 0b01 (Gpr.code .H) (Gpr.code .L)]
  | .ld_H_mHL => [byteXYZ 0b01 (Gpr.code .H) 0b110]
  | .ld_H_A => [byteXYZ 0b01 (Gpr.code .H) (Gpr.code .A)]
  | .ld_L_B => [byteXYZ 0b01 (Gpr.code .L) (Gpr.code .B)]
  | .ld_L_C => [byteXYZ 0b01 (Gpr.code .L) (Gpr.code .C)]
  | .ld_L_D => [byteXYZ 0b01 (Gpr.code .L) (Gpr.code .D)]
  | .ld_L_E => [byteXYZ 0b01 (Gpr.code .L) (Gpr.code .E)]
  | .ld_L_H => [byteXYZ 0b01 (Gpr.code .L) (Gpr.code .H)]
  | .ld_L_L => [byteXYZ 0b01 (Gpr.code .L) (Gpr.code .L)]
  | .ld_L_mHL => [byteXYZ 0b01 (Gpr.code .L) 0b110]
  | .ld_L_A => [byteXYZ 0b01 (Gpr.code .L) (Gpr.code .A)]
  | .ld_mHL_B => [byteXYZ 0b01 0b110 (Gpr.code .B)]
  | .ld_mHL_C => [byteXYZ 0b01 0b110 (Gpr.code .C)]
  | .ld_mHL_D => [byteXYZ 0b01 0b110 (Gpr.code .D)]
  | .ld_mHL_E => [byteXYZ 0b01 0b110 (Gpr.code .E)]
  | .ld_mHL_H => [byteXYZ 0b01 0b110 (Gpr.code .H)]
  | .ld_mHL_L => [byteXYZ 0b01 0b110 (Gpr.code .L)]
  | .ld_mHL_A => [byteXYZ 0b01 0b110 (Gpr.code .A)]
  | .ld_A_B => [byteXYZ 0b01 (Gpr.code .A) (Gpr.code .B)]
  | .ld_A_C => [byteXYZ 0b01 (Gpr.code .A) (Gpr.code .C)]
  | .ld_A_D => [byteXYZ 0b01 (Gpr.code .A) (Gpr.code .D)]
  | .ld_A_E => [byteXYZ 0b01 (Gpr.code .A) (Gpr.code .E)]
  | .ld_A_H => [byteXYZ 0b01 (Gpr.code .A) (Gpr.code .H)]
  | .ld_A_L => [byteXYZ 0b01 (Gpr.code .A) (Gpr.code .L)]
  | .ld_A_mHL => [byteXYZ 0b01 (Gpr.code .A) 0b110]
  | .ld_A_A => [byteXYZ 0b01 (Gpr.code .A) (Gpr.code .A)]
  | .jp_NZ_a16 a16 => withImm16 (byteXYZ 0b11 (0b0#1 ++ Cond.code .NZ) 0b010) a16
  | .jp_a16 a16 => withImm16 0xC3 a16
  | .call_NZ_a16 a16 => withImm16 (byteXYZ 0b11 (0b0#1 ++ Cond.code .NZ) 0b100) a16
  | .push_BC => [byteXPQZ 0b11 (PairAF.code .BC) 0 0b101]
  | .rst_00 => [byteXYZ 0b11 0b000 0b111]
  | .jp_Z_a16 a16 => withImm16 (byteXYZ 0b11 (0b0#1 ++ Cond.code .Z) 0b010) a16
  | .call_Z_a16 a16 => withImm16 (byteXYZ 0b11 (0b0#1 ++ Cond.code .Z) 0b100) a16
  | .call_a16 a16 => withImm16 0xCD a16
  | .rst_08 => [byteXYZ 0b11 0b001 0b111]
  | .jp_NC_a16 a16 => withImm16 (byteXYZ 0b11 (0b0#1 ++ Cond.code .NC) 0b010) a16
  | .call_NC_a16 a16 => withImm16 (byteXYZ 0b11 (0b0#1 ++ Cond.code .NC) 0b100) a16
  | .push_DE => [byteXPQZ 0b11 (PairAF.code .DE) 0 0b101]
  | .rst_10 => [byteXYZ 0b11 0b010 0b111]
  | .jp_C_a16 a16 => withImm16 (byteXYZ 0b11 (0b0#1 ++ Cond.code .C) 0b010) a16
  | .call_C_a16 a16 => withImm16 (byteXYZ 0b11 (0b0#1 ++ Cond.code .C) 0b100) a16
  | .rst_18 => [byteXYZ 0b11 0b011 0b111]
  | .ldh_ma8_A a8 => [0xE0, a8]
  | .ldh_mC_A => [0xE2]
  | .push_HL => [byteXPQZ 0b11 (PairAF.code .HL) 0 0b101]
  | .rst_20 => [byteXYZ 0b11 0b100 0b111]
  | .jp_HL => [0xE9]
  | .ld_ma16_A a16 => withImm16 0xEA a16
  | .rst_28 => [byteXYZ 0b11 0b101 0b111]
  | .ldh_A_ma8 a8 => [0xF0, a8]
  | .ldh_A_mC => [0xF2]
  | .push_AF => [byteXPQZ 0b11 (PairAF.code .AF) 0 0b101]
  | .rst_30 => [byteXYZ 0b11 0b110 0b111]
  | .ld_HL_SPe8 e8 => [0xF8, e8]
  | .ld_SP_HL => [0xF9]
  | .ld_A_ma16 a16 => withImm16 0xFA a16
  | .rst_38 => [byteXYZ 0b11 0b111 0b111]
  | .rlc r8 => prefixedWord 0b00 0b000 r8
  | .rrc r8 => prefixedWord 0b00 0b001 r8
  | .rl r8 => prefixedWord 0b00 0b010 r8
  | .rr r8 => prefixedWord 0b00 0b011 r8
  | .sla r8 => prefixedWord 0b00 0b100 r8
  | .sra r8 => prefixedWord 0b00 0b101 r8
  | .swap r8 => prefixedWord 0b00 0b110 r8
  | .srl r8 => prefixedWord 0b00 0b111 r8
  | .bit b3 r8 => prefixedWord 0b01 b3 r8
  | .res b3 r8 => prefixedWord 0b10 b3 r8
  | .set b3 r8 => prefixedWord 0b11 b3 r8
  | .stop_n8 n8 => [0x10, n8]
  | .add_A_n8 n8 => [byteXYZ 0b11 0b000 0b110, n8]
  | .adc_A_n8 n8 => [byteXYZ 0b11 0b001 0b110, n8]
  | .sub_A_n8 n8 => [byteXYZ 0b11 0b010 0b110, n8]
  | .sbc_A_n8 n8 => [byteXYZ 0b11 0b011 0b110, n8]
  | .and_A_n8 n8 => [byteXYZ 0b11 0b100 0b110, n8]
  | .add_SP_e8 e8 => [0xE8, e8]
  | .xor_A_n8 n8 => [byteXYZ 0b11 0b101 0b110, n8]
  | .or_A_n8 n8 => [byteXYZ 0b11 0b110 0b110, n8]
  | .cp_A_n8 n8 => [byteXYZ 0b11 0b111 0b110, n8]
  | .inc_BC => [byteXPQZ 0b00 (PairSP.code .BC) 0 0b011]
  | .inc_B => [byteXYZ 0b00 (Gpr.code .B) 0b100]
  | .dec_B => [byteXYZ 0b00 (Gpr.code .B) 0b101]
  | .rlca => [0x07]
  | .add_HL_BC => [byteXPQZ 0b00 (PairSP.code .BC) 1 0b001]
  | .dec_BC => [byteXPQZ 0b00 (PairSP.code .BC) 1 0b011]
  | .inc_C => [byteXYZ 0b00 (Gpr.code .C) 0b100]
  | .dec_C => [byteXYZ 0b00 (Gpr.code .C) 0b101]
  | .rrca => [0x0F]
  | .inc_DE => [byteXPQZ 0b00 (PairSP.code .DE) 0 0b011]
  | .inc_D => [byteXYZ 0b00 (Gpr.code .D) 0b100]
  | .dec_D => [byteXYZ 0b00 (Gpr.code .D) 0b101]
  | .rla => [0x17]
  | .add_HL_DE => [byteXPQZ 0b00 (PairSP.code .DE) 1 0b001]
  | .dec_DE => [byteXPQZ 0b00 (PairSP.code .DE) 1 0b011]
  | .inc_E => [byteXYZ 0b00 (Gpr.code .E) 0b100]
  | .dec_E => [byteXYZ 0b00 (Gpr.code .E) 0b101]
  | .rra => [0x1F]
  | .inc_HL => [byteXPQZ 0b00 (PairSP.code .HL) 0 0b011]
  | .inc_H => [byteXYZ 0b00 (Gpr.code .H) 0b100]
  | .dec_H => [byteXYZ 0b00 (Gpr.code .H) 0b101]
  | .daa => [0x27]
  | .add_HL_HL => [byteXPQZ 0b00 (PairSP.code .HL) 1 0b001]
  | .dec_HL => [byteXPQZ 0b00 (PairSP.code .HL) 1 0b011]
  | .inc_L => [byteXYZ 0b00 (Gpr.code .L) 0b100]
  | .dec_L => [byteXYZ 0b00 (Gpr.code .L) 0b101]
  | .cpl => [0x2F]
  | .inc_SP => [byteXPQZ 0b00 (PairSP.code .SP) 0 0b011]
  | .inc_mHL => [byteXYZ 0b00 0b110 0b100]
  | .dec_mHL => [byteXYZ 0b00 0b110 0b101]
  | .scf => [0x37]
  | .add_HL_SP => [byteXPQZ 0b00 (PairSP.code .SP) 1 0b001]
  | .dec_SP => [byteXPQZ 0b00 (PairSP.code .SP) 1 0b011]
  | .inc_A => [byteXYZ 0b00 (Gpr.code .A) 0b100]
  | .dec_A => [byteXYZ 0b00 (Gpr.code .A) 0b101]
  | .ccf => [0x3F]
  | .halt => [0x76]
  | .add_A_B => [byteXYZ 0b10 0b000 (Gpr.code .B)]
  | .add_A_C => [byteXYZ 0b10 0b000 (Gpr.code .C)]
  | .add_A_D => [byteXYZ 0b10 0b000 (Gpr.code .D)]
  | .add_A_E => [byteXYZ 0b10 0b000 (Gpr.code .E)]
  | .add_A_H => [byteXYZ 0b10 0b000 (Gpr.code .H)]
  | .add_A_L => [byteXYZ 0b10 0b000 (Gpr.code .L)]
  | .add_A_mHL => [byteXYZ 0b10 0b000 0b110]
  | .add_A_A => [byteXYZ 0b10 0b000 (Gpr.code .A)]
  | .adc_A_B => [byteXYZ 0b10 0b001 (Gpr.code .B)]
  | .adc_A_C => [byteXYZ 0b10 0b001 (Gpr.code .C)]
  | .adc_A_D => [byteXYZ 0b10 0b001 (Gpr.code .D)]
  | .adc_A_E => [byteXYZ 0b10 0b001 (Gpr.code .E)]
  | .adc_A_H => [byteXYZ 0b10 0b001 (Gpr.code .H)]
  | .adc_A_L => [byteXYZ 0b10 0b001 (Gpr.code .L)]
  | .adc_A_mHL => [byteXYZ 0b10 0b001 0b110]
  | .adc_A_A => [byteXYZ 0b10 0b001 (Gpr.code .A)]
  | .sub_A_B => [byteXYZ 0b10 0b010 (Gpr.code .B)]
  | .sub_A_C => [byteXYZ 0b10 0b010 (Gpr.code .C)]
  | .sub_A_D => [byteXYZ 0b10 0b010 (Gpr.code .D)]
  | .sub_A_E => [byteXYZ 0b10 0b010 (Gpr.code .E)]
  | .sub_A_H => [byteXYZ 0b10 0b010 (Gpr.code .H)]
  | .sub_A_L => [byteXYZ 0b10 0b010 (Gpr.code .L)]
  | .sub_A_mHL => [byteXYZ 0b10 0b010 0b110]
  | .sub_A_A => [byteXYZ 0b10 0b010 (Gpr.code .A)]
  | .sbc_A_B => [byteXYZ 0b10 0b011 (Gpr.code .B)]
  | .sbc_A_C => [byteXYZ 0b10 0b011 (Gpr.code .C)]
  | .sbc_A_D => [byteXYZ 0b10 0b011 (Gpr.code .D)]
  | .sbc_A_E => [byteXYZ 0b10 0b011 (Gpr.code .E)]
  | .sbc_A_H => [byteXYZ 0b10 0b011 (Gpr.code .H)]
  | .sbc_A_L => [byteXYZ 0b10 0b011 (Gpr.code .L)]
  | .sbc_A_mHL => [byteXYZ 0b10 0b011 0b110]
  | .sbc_A_A => [byteXYZ 0b10 0b011 (Gpr.code .A)]
  | .and_A_B => [byteXYZ 0b10 0b100 (Gpr.code .B)]
  | .and_A_C => [byteXYZ 0b10 0b100 (Gpr.code .C)]
  | .and_A_D => [byteXYZ 0b10 0b100 (Gpr.code .D)]
  | .and_A_E => [byteXYZ 0b10 0b100 (Gpr.code .E)]
  | .and_A_H => [byteXYZ 0b10 0b100 (Gpr.code .H)]
  | .and_A_L => [byteXYZ 0b10 0b100 (Gpr.code .L)]
  | .and_A_mHL => [byteXYZ 0b10 0b100 0b110]
  | .and_A_A => [byteXYZ 0b10 0b100 (Gpr.code .A)]
  | .xor_A_B => [byteXYZ 0b10 0b101 (Gpr.code .B)]
  | .xor_A_C => [byteXYZ 0b10 0b101 (Gpr.code .C)]
  | .xor_A_D => [byteXYZ 0b10 0b101 (Gpr.code .D)]
  | .xor_A_E => [byteXYZ 0b10 0b101 (Gpr.code .E)]
  | .xor_A_H => [byteXYZ 0b10 0b101 (Gpr.code .H)]
  | .xor_A_L => [byteXYZ 0b10 0b101 (Gpr.code .L)]
  | .xor_A_mHL => [byteXYZ 0b10 0b101 0b110]
  | .xor_A_A => [byteXYZ 0b10 0b101 (Gpr.code .A)]
  | .or_A_B => [byteXYZ 0b10 0b110 (Gpr.code .B)]
  | .or_A_C => [byteXYZ 0b10 0b110 (Gpr.code .C)]
  | .or_A_D => [byteXYZ 0b10 0b110 (Gpr.code .D)]
  | .or_A_E => [byteXYZ 0b10 0b110 (Gpr.code .E)]
  | .or_A_H => [byteXYZ 0b10 0b110 (Gpr.code .H)]
  | .or_A_L => [byteXYZ 0b10 0b110 (Gpr.code .L)]
  | .or_A_mHL => [byteXYZ 0b10 0b110 0b110]
  | .or_A_A => [byteXYZ 0b10 0b110 (Gpr.code .A)]
  | .cp_A_B => [byteXYZ 0b10 0b111 (Gpr.code .B)]
  | .cp_A_C => [byteXYZ 0b10 0b111 (Gpr.code .C)]
  | .cp_A_D => [byteXYZ 0b10 0b111 (Gpr.code .D)]
  | .cp_A_E => [byteXYZ 0b10 0b111 (Gpr.code .E)]
  | .cp_A_H => [byteXYZ 0b10 0b111 (Gpr.code .H)]
  | .cp_A_L => [byteXYZ 0b10 0b111 (Gpr.code .L)]
  | .cp_A_mHL => [byteXYZ 0b10 0b111 0b110]
  | .cp_A_A => [byteXYZ 0b10 0b111 (Gpr.code .A)]
  | .ret_NZ => [byteXYZ 0b11 (0b0#1 ++ Cond.code .NZ) 0b000]
  | .pop_BC => [byteXPQZ 0b11 (PairAF.code .BC) 0 0b001]
  | .ret_Z => [byteXYZ 0b11 (0b0#1 ++ Cond.code .Z) 0b000]
  | .ret => [0xC9]
  | .ret_NC => [byteXYZ 0b11 (0b0#1 ++ Cond.code .NC) 0b000]
  | .pop_DE => [byteXPQZ 0b11 (PairAF.code .DE) 0 0b001]
  | .ret_C => [byteXYZ 0b11 (0b0#1 ++ Cond.code .C) 0b000]
  | .reti => [0xD9]
  | .pop_HL => [byteXPQZ 0b11 (PairAF.code .HL) 0 0b001]
  | .pop_AF => [byteXPQZ 0b11 (PairAF.code .AF) 0 0b001]
  | .di => [0xF3]
  | .ei => [0xFB]
  | .illegal_D3 => [0xD3]
  | .illegal_DB => [0xDB]
  | .illegal_DD => [0xDD]
  | .illegal_E3 => [0xE3]
  | .illegal_E4 => [0xE4]
  | .illegal_EB => [0xEB]
  | .illegal_EC => [0xEC]
  | .illegal_ED => [0xED]
  | .illegal_F4 => [0xF4]
  | .illegal_FC => [0xFC]
  | .illegal_FD => [0xFD]
  | .prefixCB => [0xCB]

/-- The catalog key of an instruction: `(prefixed, opcode)` (R58, 40_step_decode_resolve.md R72). -/
def Instr.key (i : Instr) : Bool × Byte :=
  match encode i with
  | [] => (false, 0)
  | [b0] => (false, b0)
  | b0 :: b1 :: _ => if b0 = 0xCB then (true, b1) else (false, b0)

/-- The default catalog entry of an instruction. -/
def Instr.spec (i : Instr) : InstructionSpec := defaultCatalog i.key.1 i.key.2

/-! ## The words of spec/opcode_table.json -/

/-- The bytes of a table word, first byte first.  A prefixed row is numbered `byte0 * 256 + byte1` with
`byte0 = 0xCB` (R68), so the first byte is then the high one; every other word has its first byte in bits 7 to 0
(log 19).  Bits above `nbits` are 0. -/
def tableBytes (nbits w : Nat) : List Byte :=
  if 8 < nbits ∧ w / 256 % 256 = 0xCB then [0xCB, BitVec.ofNat 8 w, BitVec.ofNat 8 (w / 65536)]
  else [BitVec.ofNat 8 w, BitVec.ofNat 8 (w / 256), BitVec.ofNat 8 (w / 65536)]

/-- The instruction the decoder reads from a table word. -/
def decodeTableWord (nbits w : Nat) : Option Instr :=
  match decode (tableBytes nbits (w % 2 ^ nbits)) with
  | .ok (i, _) => some i
  | .error _ => none

end Sys2Proof
end

