-- ==== Sys2Proof/Machine/Prefixed.lean ====
section
/-! DEFINITION. The CB-prefixed set (30_encoding.md R63; 46_nop_unimplemented_illegal.md R154): each of its 256
instructions raises UNIMPLEMENTED_MNEMONIC(base, true, byte1) (log 1). -/

namespace Sys2Proof.Machine

/-- The outcome of a prefixed opcode, by the fields of its second byte (R63, R154). -/
def unimplementedCB (x : BitVec 2) (y : BitVec 3) (r : Operand8) (s : State) : Answer :=
  .next (s.raiseUnimplemented true (byteXYZ x y r.code))

/-- `RLC r8`, 0xCB00 (R154). -/
def execRlc (r8 : Operand8) (s : State) : Answer := unimplementedCB 0b00 0b000 r8 s

/-- `RRC r8`, 0xCB08 (R154). -/
def execRrc (r8 : Operand8) (s : State) : Answer := unimplementedCB 0b00 0b001 r8 s

/-- `RL r8`, 0xCB10 (R154). -/
def execRl (r8 : Operand8) (s : State) : Answer := unimplementedCB 0b00 0b010 r8 s

/-- `RR r8`, 0xCB18 (R154). -/
def execRr (r8 : Operand8) (s : State) : Answer := unimplementedCB 0b00 0b011 r8 s

/-- `SLA r8`, 0xCB20 (R154). -/
def execSla (r8 : Operand8) (s : State) : Answer := unimplementedCB 0b00 0b100 r8 s

/-- `SRA r8`, 0xCB28 (R154). -/
def execSra (r8 : Operand8) (s : State) : Answer := unimplementedCB 0b00 0b101 r8 s

/-- `SWAP r8`, 0xCB30 (R154). -/
def execSwap (r8 : Operand8) (s : State) : Answer := unimplementedCB 0b00 0b110 r8 s

/-- `SRL r8`, 0xCB38 (R154). -/
def execSrl (r8 : Operand8) (s : State) : Answer := unimplementedCB 0b00 0b111 r8 s

/-- `BIT b3,r8`, 0xCB40 (R154). -/
def execBit (b3 : BitVec 3) (r8 : Operand8) (s : State) : Answer := unimplementedCB 0b01 b3 r8 s

/-- `RES b3,r8`, 0xCB80 (R154). -/
def execRes (b3 : BitVec 3) (r8 : Operand8) (s : State) : Answer := unimplementedCB 0b10 b3 r8 s

/-- `SET b3,r8`, 0xCBC0 (R154). -/
def execSet (b3 : BitVec 3) (r8 : Operand8) (s : State) : Answer := unimplementedCB 0b11 b3 r8 s

end Sys2Proof.Machine
end

