-- ==== Sys2Proof/Machine/Stack.lean ====
section
/-! DEFINITION. CALL, RST and PUSH (45_call_rst_push.md R140 to R145).  The block has no pop. -/

namespace Sys2Proof.Machine

/-- `CALL a16`: the return address is `base + 3` (R141). -/
def callA16 (a16 : Word) (s : State) : Answer :=
  complete (s.push16 (s.fallThrough 3)) a16 Cycles.callTaken

/-- `CALL cc,a16`: the condition first; not taken pushes nothing (R142; log 16). -/
def callCC (cc : Cond) (a16 : Word) (s : State) : Answer :=
  if s.cond cc then complete (s.push16 (s.fallThrough 3)) a16 Cycles.callTaken
  else complete s (s.fallThrough 3) Cycles.callNotTaken

/-- `RST vec`: the return address is `base + 1` (R143; log 15). -/
def rstVec (vec : Word) (s : State) : Answer :=
  complete (s.push16 (s.fallThrough 1)) vec Cycles.rst

/-- `PUSH r16` (R144). -/
def pushPair (p : Reg16) (s : State) : Answer :=
  complete (s.push16 (s.read16 p)) (s.fallThrough 1) Cycles.push

/-- `CALL NZ,a16`, 0xC4 (R142). -/
def execCall_NZ_a16 (a16 : Word) (s : State) : Answer := callCC .NZ a16 s

/-- `PUSH BC`, 0xC5 (R144). -/
def execPush_BC (s : State) : Answer := pushPair .BC s

/-- `RST 0x00`, 0xC7 (R143). -/
def execRst_00 (s : State) : Answer := rstVec 0x0000 s

/-- `CALL Z,a16`, 0xCC (R142). -/
def execCall_Z_a16 (a16 : Word) (s : State) : Answer := callCC .Z a16 s

/-- `CALL a16`, 0xCD (R141). -/
def execCall_a16 (a16 : Word) (s : State) : Answer := callA16 a16 s

/-- `RST 0x08`, 0xCF (R143). -/
def execRst_08 (s : State) : Answer := rstVec 0x0008 s

/-- `CALL NC,a16`, 0xD4 (R142). -/
def execCall_NC_a16 (a16 : Word) (s : State) : Answer := callCC .NC a16 s

/-- `PUSH DE`, 0xD5 (R144). -/
def execPush_DE (s : State) : Answer := pushPair .DE s

/-- `RST 0x10`, 0xD7 (R143). -/
def execRst_10 (s : State) : Answer := rstVec 0x0010 s

/-- `CALL C,a16`, 0xDC (R142). -/
def execCall_C_a16 (a16 : Word) (s : State) : Answer := callCC .C a16 s

/-- `RST 0x18`, 0xDF (R143). -/
def execRst_18 (s : State) : Answer := rstVec 0x0018 s

/-- `PUSH HL`, 0xE5 (R144). -/
def execPush_HL (s : State) : Answer := pushPair .HL s

/-- `RST 0x20`, 0xE7 (R143). -/
def execRst_20 (s : State) : Answer := rstVec 0x0020 s

/-- `RST 0x28`, 0xEF (R143). -/
def execRst_28 (s : State) : Answer := rstVec 0x0028 s

/-- `PUSH AF`, 0xF5 (R144). -/
def execPush_AF (s : State) : Answer := pushPair .AF s

/-- `RST 0x30`, 0xF7 (R143). -/
def execRst_30 (s : State) : Answer := rstVec 0x0030 s

/-- `RST 0x38`, 0xFF (R143). -/
def execRst_38 (s : State) : Answer := rstVec 0x0038 s

end Sys2Proof.Machine
end

