-- ==== Sys2Proof/Machine/System.lean ====
section
/-! DEFINITION. NOP (46_nop_unimplemented_illegal.md R150), the eleven illegal bytes (R155), and the catalog entry
`PREFIX` at key `(false, 0xCB)` (30_encoding.md R64), which no bytes decode to and which, being no modeled family,
has the outcome of R152 (log 18). -/

namespace Sys2Proof.Machine

/-- `NOP`, 0x00 (R150). -/
def execNop (s : State) : Answer := complete s (s.fallThrough 1) Cycles.nop

/-- `ILLEGAL`, 0xD3 (R155). -/
def execIllegal_D3 (s : State) : Answer := .next (s.haltIllegal 0xD3)

/-- `ILLEGAL`, 0xDB (R155). -/
def execIllegal_DB (s : State) : Answer := .next (s.haltIllegal 0xDB)

/-- `ILLEGAL`, 0xDD (R155). -/
def execIllegal_DD (s : State) : Answer := .next (s.haltIllegal 0xDD)

/-- `ILLEGAL`, 0xE3 (R155). -/
def execIllegal_E3 (s : State) : Answer := .next (s.haltIllegal 0xE3)

/-- `ILLEGAL`, 0xE4 (R155). -/
def execIllegal_E4 (s : State) : Answer := .next (s.haltIllegal 0xE4)

/-- `ILLEGAL`, 0xEB (R155). -/
def execIllegal_EB (s : State) : Answer := .next (s.haltIllegal 0xEB)

/-- `ILLEGAL`, 0xEC (R155). -/
def execIllegal_EC (s : State) : Answer := .next (s.haltIllegal 0xEC)

/-- `ILLEGAL`, 0xED (R155). -/
def execIllegal_ED (s : State) : Answer := .next (s.haltIllegal 0xED)

/-- `ILLEGAL`, 0xF4 (R155). -/
def execIllegal_F4 (s : State) : Answer := .next (s.haltIllegal 0xF4)

/-- `ILLEGAL`, 0xFC (R155). -/
def execIllegal_FC (s : State) : Answer := .next (s.haltIllegal 0xFC)

/-- `ILLEGAL`, 0xFD (R155). -/
def execIllegal_FD (s : State) : Answer := .next (s.haltIllegal 0xFD)

/-- `PREFIX`, 0xCB (R64). -/
def execPrefixCB (s : State) : Answer := .next (s.raiseUnimplemented false 0xCB)

end Sys2Proof.Machine
end

