-- ==== Sys2Proof/Machine/Unimplemented.lean ====
section
/-! DEFINITION. The 123 unprefixed instructions whose mnemonic the executor has no case for
(30_encoding.md R61; 46_nop_unimplemented_illegal.md R151, R152, R156): each raises
UNIMPLEMENTED_MNEMONIC(base, false, opcode) and writes nothing but `RUN` and `ERR`.  The spec gives them no other
effect and forbids one (R152; log 1).  An immediate is syntax only, the machine does not read it (log 17). -/

namespace Sys2Proof.Machine

/-- The outcome of an unprefixed opcode outside the modeled families (R152). -/
def unimplemented (opcode : Byte) (s : State) : Answer := .next (s.raiseUnimplemented false opcode)

/-- `STOP n8`, 0x10 (R151). -/
def execStop_n8 (_n8 : Byte) (s : State) : Answer := unimplemented 0x10 s

/-- `ADD A,n8`, 0xC6 (R152). -/
def execAdd_A_n8 (_n8 : Byte) (s : State) : Answer := unimplemented 0xC6 s

/-- `ADC A,n8`, 0xCE (R152). -/
def execAdc_A_n8 (_n8 : Byte) (s : State) : Answer := unimplemented 0xCE s

/-- `SUB A,n8`, 0xD6 (R152). -/
def execSub_A_n8 (_n8 : Byte) (s : State) : Answer := unimplemented 0xD6 s

/-- `SBC A,n8`, 0xDE (R152). -/
def execSbc_A_n8 (_n8 : Byte) (s : State) : Answer := unimplemented 0xDE s

/-- `AND A,n8`, 0xE6 (R152). -/
def execAnd_A_n8 (_n8 : Byte) (s : State) : Answer := unimplemented 0xE6 s

/-- `ADD SP,e8`, 0xE8 (R152). -/
def execAdd_SP_e8 (_e8 : Byte) (s : State) : Answer := unimplemented 0xE8 s

/-- `XOR A,n8`, 0xEE (R152). -/
def execXor_A_n8 (_n8 : Byte) (s : State) : Answer := unimplemented 0xEE s

/-- `OR A,n8`, 0xF6 (R152). -/
def execOr_A_n8 (_n8 : Byte) (s : State) : Answer := unimplemented 0xF6 s

/-- `CP A,n8`, 0xFE (R152). -/
def execCp_A_n8 (_n8 : Byte) (s : State) : Answer := unimplemented 0xFE s

/-- `INC BC`, 0x03 (R152). -/
def execInc_BC (s : State) : Answer := unimplemented 0x03 s

/-- `INC B`, 0x04 (R152). -/
def execInc_B (s : State) : Answer := unimplemented 0x04 s

/-- `DEC B`, 0x05 (R152). -/
def execDec_B (s : State) : Answer := unimplemented 0x05 s

/-- `RLCA`, 0x07 (R152). -/
def execRlca (s : State) : Answer := unimplemented 0x07 s

/-- `ADD HL,BC`, 0x09 (R152). -/
def execAdd_HL_BC (s : State) : Answer := unimplemented 0x09 s

/-- `DEC BC`, 0x0B (R152). -/
def execDec_BC (s : State) : Answer := unimplemented 0x0B s

/-- `INC C`, 0x0C (R152). -/
def execInc_C (s : State) : Answer := unimplemented 0x0C s

/-- `DEC C`, 0x0D (R152). -/
def execDec_C (s : State) : Answer := unimplemented 0x0D s

/-- `RRCA`, 0x0F (R152). -/
def execRrca (s : State) : Answer := unimplemented 0x0F s

/-- `INC DE`, 0x13 (R152). -/
def execInc_DE (s : State) : Answer := unimplemented 0x13 s

/-- `INC D`, 0x14 (R152). -/
def execInc_D (s : State) : Answer := unimplemented 0x14 s

/-- `DEC D`, 0x15 (R152). -/
def execDec_D (s : State) : Answer := unimplemented 0x15 s

/-- `RLA`, 0x17 (R152). -/
def execRla (s : State) : Answer := unimplemented 0x17 s

/-- `ADD HL,DE`, 0x19 (R152). -/
def execAdd_HL_DE (s : State) : Answer := unimplemented 0x19 s

/-- `DEC DE`, 0x1B (R152). -/
def execDec_DE (s : State) : Answer := unimplemented 0x1B s

/-- `INC E`, 0x1C (R152). -/
def execInc_E (s : State) : Answer := unimplemented 0x1C s

/-- `DEC E`, 0x1D (R152). -/
def execDec_E (s : State) : Answer := unimplemented 0x1D s

/-- `RRA`, 0x1F (R152). -/
def execRra (s : State) : Answer := unimplemented 0x1F s

/-- `INC HL`, 0x23 (R152). -/
def execInc_HL (s : State) : Answer := unimplemented 0x23 s

/-- `INC H`, 0x24 (R152). -/
def execInc_H (s : State) : Answer := unimplemented 0x24 s

/-- `DEC H`, 0x25 (R152). -/
def execDec_H (s : State) : Answer := unimplemented 0x25 s

/-- `DAA`, 0x27 (R152). -/
def execDaa (s : State) : Answer := unimplemented 0x27 s

/-- `ADD HL,HL`, 0x29 (R152). -/
def execAdd_HL_HL (s : State) : Answer := unimplemented 0x29 s

/-- `DEC HL`, 0x2B (R152). -/
def execDec_HL (s : State) : Answer := unimplemented 0x2B s

/-- `INC L`, 0x2C (R152). -/
def execInc_L (s : State) : Answer := unimplemented 0x2C s

/-- `DEC L`, 0x2D (R152). -/
def execDec_L (s : State) : Answer := unimplemented 0x2D s

/-- `CPL`, 0x2F (R152). -/
def execCpl (s : State) : Answer := unimplemented 0x2F s

/-- `INC SP`, 0x33 (R152). -/
def execInc_SP (s : State) : Answer := unimplemented 0x33 s

/-- `INC (HL)`, 0x34 (R152). -/
def execInc_mHL (s : State) : Answer := unimplemented 0x34 s

/-- `DEC (HL)`, 0x35 (R152). -/
def execDec_mHL (s : State) : Answer := unimplemented 0x35 s

/-- `SCF`, 0x37 (R152). -/
def execScf (s : State) : Answer := unimplemented 0x37 s

/-- `ADD HL,SP`, 0x39 (R152). -/
def execAdd_HL_SP (s : State) : Answer := unimplemented 0x39 s

/-- `DEC SP`, 0x3B (R152). -/
def execDec_SP (s : State) : Answer := unimplemented 0x3B s

/-- `INC A`, 0x3C (R152). -/
def execInc_A (s : State) : Answer := unimplemented 0x3C s

/-- `DEC A`, 0x3D (R152). -/
def execDec_A (s : State) : Answer := unimplemented 0x3D s

/-- `CCF`, 0x3F (R152). -/
def execCcf (s : State) : Answer := unimplemented 0x3F s

/-- `HALT`, 0x76 (R152). -/
def execHalt (s : State) : Answer := unimplemented 0x76 s

/-- `ADD A,B`, 0x80 (R152). -/
def execAdd_A_B (s : State) : Answer := unimplemented 0x80 s

/-- `ADD A,C`, 0x81 (R152). -/
def execAdd_A_C (s : State) : Answer := unimplemented 0x81 s

/-- `ADD A,D`, 0x82 (R152). -/
def execAdd_A_D (s : State) : Answer := unimplemented 0x82 s

/-- `ADD A,E`, 0x83 (R152). -/
def execAdd_A_E (s : State) : Answer := unimplemented 0x83 s

/-- `ADD A,H`, 0x84 (R152). -/
def execAdd_A_H (s : State) : Answer := unimplemented 0x84 s

/-- `ADD A,L`, 0x85 (R152). -/
def execAdd_A_L (s : State) : Answer := unimplemented 0x85 s

/-- `ADD A,(HL)`, 0x86 (R152). -/
def execAdd_A_mHL (s : State) : Answer := unimplemented 0x86 s

/-- `ADD A,A`, 0x87 (R152). -/
def execAdd_A_A (s : State) : Answer := unimplemented 0x87 s

/-- `ADC A,B`, 0x88 (R152). -/
def execAdc_A_B (s : State) : Answer := unimplemented 0x88 s

/-- `ADC A,C`, 0x89 (R152). -/
def execAdc_A_C (s : State) : Answer := unimplemented 0x89 s

/-- `ADC A,D`, 0x8A (R152). -/
def execAdc_A_D (s : State) : Answer := unimplemented 0x8A s

/-- `ADC A,E`, 0x8B (R152). -/
def execAdc_A_E (s : State) : Answer := unimplemented 0x8B s

/-- `ADC A,H`, 0x8C (R152). -/
def execAdc_A_H (s : State) : Answer := unimplemented 0x8C s

/-- `ADC A,L`, 0x8D (R152). -/
def execAdc_A_L (s : State) : Answer := unimplemented 0x8D s

/-- `ADC A,(HL)`, 0x8E (R152). -/
def execAdc_A_mHL (s : State) : Answer := unimplemented 0x8E s

/-- `ADC A,A`, 0x8F (R152). -/
def execAdc_A_A (s : State) : Answer := unimplemented 0x8F s

/-- `SUB A,B`, 0x90 (R152). -/
def execSub_A_B (s : State) : Answer := unimplemented 0x90 s

/-- `SUB A,C`, 0x91 (R152). -/
def execSub_A_C (s : State) : Answer := unimplemented 0x91 s

/-- `SUB A,D`, 0x92 (R152). -/
def execSub_A_D (s : State) : Answer := unimplemented 0x92 s

/-- `SUB A,E`, 0x93 (R152). -/
def execSub_A_E (s : State) : Answer := unimplemented 0x93 s

/-- `SUB A,H`, 0x94 (R152). -/
def execSub_A_H (s : State) : Answer := unimplemented 0x94 s

/-- `SUB A,L`, 0x95 (R152). -/
def execSub_A_L (s : State) : Answer := unimplemented 0x95 s

/-- `SUB A,(HL)`, 0x96 (R152). -/
def execSub_A_mHL (s : State) : Answer := unimplemented 0x96 s

/-- `SUB A,A`, 0x97 (R152). -/
def execSub_A_A (s : State) : Answer := unimplemented 0x97 s

/-- `SBC A,B`, 0x98 (R152). -/
def execSbc_A_B (s : State) : Answer := unimplemented 0x98 s

/-- `SBC A,C`, 0x99 (R152). -/
def execSbc_A_C (s : State) : Answer := unimplemented 0x99 s

/-- `SBC A,D`, 0x9A (R152). -/
def execSbc_A_D (s : State) : Answer := unimplemented 0x9A s

/-- `SBC A,E`, 0x9B (R152). -/
def execSbc_A_E (s : State) : Answer := unimplemented 0x9B s

/-- `SBC A,H`, 0x9C (R152). -/
def execSbc_A_H (s : State) : Answer := unimplemented 0x9C s

/-- `SBC A,L`, 0x9D (R152). -/
def execSbc_A_L (s : State) : Answer := unimplemented 0x9D s

/-- `SBC A,(HL)`, 0x9E (R152). -/
def execSbc_A_mHL (s : State) : Answer := unimplemented 0x9E s

/-- `SBC A,A`, 0x9F (R152). -/
def execSbc_A_A (s : State) : Answer := unimplemented 0x9F s

/-- `AND A,B`, 0xA0 (R152). -/
def execAnd_A_B (s : State) : Answer := unimplemented 0xA0 s

/-- `AND A,C`, 0xA1 (R152). -/
def execAnd_A_C (s : State) : Answer := unimplemented 0xA1 s

/-- `AND A,D`, 0xA2 (R152). -/
def execAnd_A_D (s : State) : Answer := unimplemented 0xA2 s

/-- `AND A,E`, 0xA3 (R152). -/
def execAnd_A_E (s : State) : Answer := unimplemented 0xA3 s

/-- `AND A,H`, 0xA4 (R152). -/
def execAnd_A_H (s : State) : Answer := unimplemented 0xA4 s

/-- `AND A,L`, 0xA5 (R152). -/
def execAnd_A_L (s : State) : Answer := unimplemented 0xA5 s

/-- `AND A,(HL)`, 0xA6 (R152). -/
def execAnd_A_mHL (s : State) : Answer := unimplemented 0xA6 s

/-- `AND A,A`, 0xA7 (R152). -/
def execAnd_A_A (s : State) : Answer := unimplemented 0xA7 s

/-- `XOR A,B`, 0xA8 (R152). -/
def execXor_A_B (s : State) : Answer := unimplemented 0xA8 s

/-- `XOR A,C`, 0xA9 (R152). -/
def execXor_A_C (s : State) : Answer := unimplemented 0xA9 s

/-- `XOR A,D`, 0xAA (R152). -/
def execXor_A_D (s : State) : Answer := unimplemented 0xAA s

/-- `XOR A,E`, 0xAB (R152). -/
def execXor_A_E (s : State) : Answer := unimplemented 0xAB s

/-- `XOR A,H`, 0xAC (R152). -/
def execXor_A_H (s : State) : Answer := unimplemented 0xAC s

/-- `XOR A,L`, 0xAD (R152). -/
def execXor_A_L (s : State) : Answer := unimplemented 0xAD s

/-- `XOR A,(HL)`, 0xAE (R152). -/
def execXor_A_mHL (s : State) : Answer := unimplemented 0xAE s

/-- `XOR A,A`, 0xAF (R152). -/
def execXor_A_A (s : State) : Answer := unimplemented 0xAF s

/-- `OR A,B`, 0xB0 (R152). -/
def execOr_A_B (s : State) : Answer := unimplemented 0xB0 s

/-- `OR A,C`, 0xB1 (R152). -/
def execOr_A_C (s : State) : Answer := unimplemented 0xB1 s

/-- `OR A,D`, 0xB2 (R152). -/
def execOr_A_D (s : State) : Answer := unimplemented 0xB2 s

/-- `OR A,E`, 0xB3 (R152). -/
def execOr_A_E (s : State) : Answer := unimplemented 0xB3 s

/-- `OR A,H`, 0xB4 (R152). -/
def execOr_A_H (s : State) : Answer := unimplemented 0xB4 s

/-- `OR A,L`, 0xB5 (R152). -/
def execOr_A_L (s : State) : Answer := unimplemented 0xB5 s

/-- `OR A,(HL)`, 0xB6 (R152). -/
def execOr_A_mHL (s : State) : Answer := unimplemented 0xB6 s

/-- `OR A,A`, 0xB7 (R152). -/
def execOr_A_A (s : State) : Answer := unimplemented 0xB7 s

/-- `CP A,B`, 0xB8 (R152). -/
def execCp_A_B (s : State) : Answer := unimplemented 0xB8 s

/-- `CP A,C`, 0xB9 (R152). -/
def execCp_A_C (s : State) : Answer := unimplemented 0xB9 s

/-- `CP A,D`, 0xBA (R152). -/
def execCp_A_D (s : State) : Answer := unimplemented 0xBA s

/-- `CP A,E`, 0xBB (R152). -/
def execCp_A_E (s : State) : Answer := unimplemented 0xBB s

/-- `CP A,H`, 0xBC (R152). -/
def execCp_A_H (s : State) : Answer := unimplemented 0xBC s

/-- `CP A,L`, 0xBD (R152). -/
def execCp_A_L (s : State) : Answer := unimplemented 0xBD s

/-- `CP A,(HL)`, 0xBE (R152). -/
def execCp_A_mHL (s : State) : Answer := unimplemented 0xBE s

/-- `CP A,A`, 0xBF (R152). -/
def execCp_A_A (s : State) : Answer := unimplemented 0xBF s

/-- `RET NZ`, 0xC0 (R152). -/
def execRet_NZ (s : State) : Answer := unimplemented 0xC0 s

/-- `POP BC`, 0xC1 (R152). -/
def execPop_BC (s : State) : Answer := unimplemented 0xC1 s

/-- `RET Z`, 0xC8 (R152). -/
def execRet_Z (s : State) : Answer := unimplemented 0xC8 s

/-- `RET`, 0xC9 (R152). -/
def execRet (s : State) : Answer := unimplemented 0xC9 s

/-- `RET NC`, 0xD0 (R152). -/
def execRet_NC (s : State) : Answer := unimplemented 0xD0 s

/-- `POP DE`, 0xD1 (R152). -/
def execPop_DE (s : State) : Answer := unimplemented 0xD1 s

/-- `RET C`, 0xD8 (R152). -/
def execRet_C (s : State) : Answer := unimplemented 0xD8 s

/-- `RETI`, 0xD9 (R152). -/
def execReti (s : State) : Answer := unimplemented 0xD9 s

/-- `POP HL`, 0xE1 (R152). -/
def execPop_HL (s : State) : Answer := unimplemented 0xE1 s

/-- `POP AF`, 0xF1 (R152). -/
def execPop_AF (s : State) : Answer := unimplemented 0xF1 s

/-- `DI`, 0xF3 (R152). -/
def execDi (s : State) : Answer := unimplemented 0xF3 s

/-- `EI`, 0xFB (R152). -/
def execEi (s : State) : Answer := unimplemented 0xFB s

end Sys2Proof.Machine
end

