-- ==== Sys2Proof/Machine/Fetch.lean ====
section
/-! DEFINITION. Fetching the instruction at `PC` and laying bytes into memory (40_step_decode_resolve.md R72, R77;
70_reset_and_hazards.md R182). -/

namespace Sys2Proof.Machine

/-- The instruction at `PC`: its bytes at `base`, `base + 1`, `base + 2`, modulo 2^16 (R77, 20_memory.md R35).  Bytes
past its length do not matter; a read has no effect (R31), so reading them costs nothing (log 17). -/
def State.fetchInstr (s : State) : Instr :=
  decode3 (s.busRead s.pc) (s.busRead (s.pc + 1)) (s.busRead (s.pc + 2))

/-- Bytes stored from an address upward, modulo 2^16. -/
def Memory.storeFrom (m : Memory) (addr : Word) (bytes : List Byte) : Memory :=
  match bytes with
  | [] => m
  | v :: rest => Memory.storeFrom (m.writeCell addr.toNat v) (addr + 1) rest

end Sys2Proof.Machine
end

