-- ==== Sys2Proof/Machine/Step.lean ====
section
/-! DEFINITION. The step (40_step_decode_resolve.md R70, R71, R86): the run-state gate, then the instruction at `PC`. -/

namespace Sys2Proof.Machine

/-- One step.  In `RUNNING` it executes the instruction at `PC`; in `HALTED` and `FAULTED` it is inert and repeats the
recorded outcome (R86). -/
def step (s : State) : Host.Outcome State Fault Refusal :=
  match s.run with
  | .halted => .next s.repeatHalt
  | .faulted => .next s.repeatError
  | .running => exec s.fetchInstr s

/-- The state with a table word's bytes where the next step fetches: at `PC`.  A step fetches only in `RUNNING`, so
`RUN` and `ERR` are put to that (log 20). -/
def State.withFetchWord (s : State) (nbits w : Nat) : State :=
  { s with mem := s.mem.storeFrom s.pc (tableBytes nbits (w % 2 ^ nbits)), run := .running, err := .none }

end Sys2Proof.Machine
end

