-- ==== Sys2Proof/Machine/Engine.lean ====
section
/-! DEFINITION. The fetch-decode-execute engine of 40_step_decode_resolve.md R70 to R87 for ANY catalog: decoder
state machine, operand resolver, shape check, dispatch on the mnemonic, cost selection, commit.  It is written from
the engine's rules, the meanings `exec` calls from the instruction rules R90 to R155; that both agree under the
default catalog is the obligation StepIsTheCatalogEngine (log 22). -/

namespace Sys2Proof.Machine

/-- What an operand is bound to (R75); a condition code binds no storage (R78). -/
inductive Binding where
  | slot8 (r : Reg8)
  | slot16 (p : Reg16)
  | addr (a : Word) (adjust : Adjust)
  | val8 (v : Byte)
  | val16 (v : Word)
  | noStorage (cc : Cond)
  deriving DecidableEq, Repr

/-- A value an executor moves: 8 or 16 bits, as its source has. -/
inductive Value where
  | byte (v : Byte)
  | word (v : Word)
  deriving DecidableEq, Repr

/-- The decoder's result, built and consumed within one step (R74). -/
structure DecodedInstruction where
  isPrefixed : Bool
  opcode     : Byte
  mnemonic   : Mnemonic
  bindings   : List Binding
  length     : Nat
  cycles     : List Nat
  deriving DecidableEq, Repr

/-- A family's result: the state its effects left, `cycles_consumed`, `next_pc` (R81). -/
structure FamilyResult where
  state  : State
  cycles : Nat
  nextPc : Word
  deriving DecidableEq, Repr

/-- `FetchOpcode`, `CheckPrefix`, `FetchCBOpcode`: the catalog key at `base`, with one level of prefix (R72). -/
def State.fetchKey (s : State) : Bool × Byte :=
  if s.busRead s.pc = 0xCB then (true, s.busRead (s.pc + 1)) else (false, s.busRead s.pc)

/-- The operand resolver (R75 to R79). -/
def resolve (o : OperandSpec) (s : State) (base : Word) : Binding :=
  match o.kind, o.deref with
  | .reg8 r, false => .slot8 r
  | .reg8 r, true => .addr (highPage (s.read8 r)) o.adjust
  | .reg16 p, false => .slot16 p
  | .reg16 p, true => .addr (s.read16 p) o.adjust
  | .imm8 off, false => .val8 (s.busRead (base + BitVec.ofNat 16 off))
  | .imm8 off, true => .addr (highPage (s.busRead (base + BitVec.ofNat 16 off))) o.adjust
  | .imm16 off, false => .val16 (s.busRead16 (base + BitVec.ofNat 16 off))
  | .imm16 off, true => .addr (s.busRead16 (base + BitVec.ofNat 16 off)) o.adjust
  | .rel8 off, _ => .val8 (s.busRead (base + BitVec.ofNat 16 off))
  | .bit3 b, _ => .val8 (b.setWidth 8)
  | .cond cc, _ => .noStorage cc
  | .vec v, _ => .val16 v

/-- The Decoded Instruction of a catalog entry (R74). -/
def decodeWith (key : Bool × Byte) (spec : InstructionSpec) (s : State) : DecodedInstruction where
  isPrefixed := key.1
  opcode := key.2
  mnemonic := spec.mnemonic
  bindings := spec.operands.map fun o => resolve o s s.pc
  length := spec.length
  cycles := spec.cycles

/-- The value of a source binding (R75). -/
def readSource (b : Binding) (s : State) : Option Value :=
  match b with
  | .slot8 r => some (.byte (s.read8 r))
  | .slot16 p => some (.word (s.read16 p))
  | .addr a _ => some (.byte (s.busRead a))
  | .val8 v => some (.byte v)
  | .val16 v => some (.word v)
  | .noStorage _ => none

/-- The write of a destination binding (R75); a slot takes a value of its own width. -/
def writeDest (b : Binding) (v : Value) (s : State) : Option State :=
  match b, v with
  | .slot8 r, .byte v => some (s.write8 r v)
  | .slot16 p, .word v => some (s.write16 p v)
  | .addr a _, .byte v => some (s.busWrite a v)
  | .addr a _, .word v => some (s.busWrite16 a v)
  | _, _ => none

/-- The deferred adjusts of the bindings, after the transfer (R79). -/
def applyAdjusts (bs : List Binding) (s : State) : State :=
  bs.foldl (fun t b => match b with
    | .addr _ adj => t.adjustHL adj
    | .slot8 _ | .slot16 _ | .val8 _ | .val16 _ | .noStorage _ => t) s

/-- Whether control is taken: every condition code among the bindings holds on the current flags (R78). -/
def DecodedInstruction.taken (d : DecodedInstruction) (s : State) : Bool :=
  d.bindings.all fun b => match b with
    | .noStorage cc => s.cond cc
    | .slot8 _ | .slot16 _ | .addr _ _ | .val8 _ | .val16 _ => true

/-- Cycle-cost selection: variant 0 unless a condition is false (R82). -/
def DecodedInstruction.cost (d : DecodedInstruction) (s : State) : Nat :=
  d.cycles.getD (if d.taken s then 0 else 1) 0

/-- The target of an absolute jump: a register's value or an immediate (44_jp_jr.md R130, R132). -/
def jumpTarget (b : Binding) (s : State) : Option Word :=
  match b with
  | .slot16 p => some (s.read16 p)
  | .val16 v => some v
  | .slot8 _ | .addr _ _ | .val8 _ | .noStorage _ => none

/-- The executor: dispatch on the mnemonic, each family a function of the Decoded Instruction and the state (R81). -/
def runFamily (d : DecodedInstruction) (s : State) : Option FamilyResult :=
  let fall := s.fallThrough d.length
  let cost := d.cost s
  let copy (dst src : Binding) : Option FamilyResult :=
    (readSource src s).bind fun v => (writeDest dst v s).map fun t => ⟨applyAdjusts d.bindings t, cost, fall⟩
  match d.mnemonic, d.bindings with
  | .NOP, [] => some ⟨s, cost, fall⟩
  | .LD, [dst, src] => copy dst src
  | .LDH, [dst, src] => copy dst src
  | .LD, [.slot16 .HL, .slot16 .SP, .val8 e8] =>
    some ⟨(s.write16 .HL (s.read16 .SP + sext16 e8)).flagsSPe8 (s.read16 .SP) e8, cost, fall⟩
  | .JP, [t] => (jumpTarget t s).map fun target => ⟨s, cost, target⟩
  | .JP, [.noStorage cc, .val16 a16] => some ⟨s, cost, if s.cond cc then a16 else fall⟩
  | .JR, [.val8 e8] => some ⟨s, cost, fall + sext16 e8⟩
  | .JR, [.noStorage cc, .val8 e8] => some ⟨s, cost, if s.cond cc then fall + sext16 e8 else fall⟩
  | .CALL, [.val16 a16] => some ⟨s.push16 fall, cost, a16⟩
  | .CALL, [.noStorage cc, .val16 a16] =>
    if s.cond cc then some ⟨s.push16 fall, cost, a16⟩ else some ⟨s, cost, fall⟩
  | .RST, [.val16 vec] => some ⟨s.push16 fall, cost, vec⟩
  | .PUSH, [.slot16 p] => some ⟨s.push16 (s.read16 p), cost, fall⟩
  | _, _ => none

/-! ## The operand shapes of R83 -/

/-- `Reg8(X)` with `X` other than `F`. -/
def isR8 (o : OperandSpec) : Bool :=
  [Reg8.B, .C, .D, .E, .H, .L, .A].any fun r => o == .r8 r

/-- `Cond(cc)`. -/
def isCC (o : OperandSpec) : Bool :=
  [Cond.NZ, .Z, .NC, .C].any fun cc => o == .cond cc

/-- `Vec(v)`, `v` any `u16` (R59, R83). -/
def isVec (o : OperandSpec) : Bool :=
  match o.kind with
  | .vec v => o == .vec v
  | .reg8 _ | .reg16 _ | .imm8 _ | .imm16 _ | .rel8 _ | .bit3 _ | .cond _ => false

/-- The `LD` rows of R83. -/
def ldShape (ops : List OperandSpec) : Bool :=
  match ops with
  | [d, s] =>
    (isR8 d && (isR8 s || s == .m16 .HL || s == .n8))
      || (d == .m16 .HL && (isR8 s || s == .n8))
      || ([OperandSpec.m16 .BC, .m16 .DE, .mHLi, .mHLd, .mA16].contains d && s == .r8 .A)
      || (d == .r8 .A && [OperandSpec.m16 .BC, .m16 .DE, .mHLi, .mHLd, .mA16].contains s)
      || ([OperandSpec.r16 .BC, .r16 .DE, .r16 .HL, .r16 .SP].contains d && s == .n16)
      || (d == .mA16 && s == .r16 .SP)
      || (d == .r16 .SP && s == .r16 .HL)
  | [d, s, t] => d == .r16 .HL && s == .r16 .SP && t == .e8
  | _ => false

/-- The `LDH` rows of R83. -/
def ldhShape (ops : List OperandSpec) : Bool :=
  match ops with
  | [d, s] => ([OperandSpec.mA8, .mC].contains d && s == .r8 .A) || (d == .r8 .A && [OperandSpec.mA8, .mC].contains s)
  | _ => false

/-- The rows of R83 of a family with an optional condition before its one operand. -/
def condShape (target : OperandSpec) (ops : List OperandSpec) : Bool :=
  match ops with
  | [t] => t == target
  | [cc, t] => isCC cc && t == target
  | _ => false

/-- The operand lists the families recognise (R83). -/
def shapeOk (m : Mnemonic) (ops : List OperandSpec) : Bool :=
  match m with
  | .NOP => ops == []
  | .LD => ldShape ops
  | .LDH => ldhShape ops
  | .JP => condShape .n16 ops || ops == [.r16 .HL]
  | .JR => condShape .e8 ops
  | .CALL => condShape .n16 ops
  | .RST => match ops with
    | [v] => isVec v
    | _ => false
  | .PUSH => match ops with
    | [p] => [OperandSpec.r16 .BC, .r16 .DE, .r16 .HL, .r16 .AF].contains p
    | _ => false
  | _ => false

/-- Phases 2 to 6 of R71: decode, classify (illegal, then unimplemented, then operand shape: R168), resolve, execute,
commit. -/
def engineRun (cat : Catalog) (s : State) : State :=
  let key := s.fetchKey
  let spec := cat key.1 key.2
  if spec.mnemonic = .ILLEGAL then s.haltIllegal key.2
  else if !spec.mnemonic.modeled then s.raiseUnimplemented key.1 key.2
  else if !shapeOk spec.mnemonic spec.operands then s.raise (.operandShape s.pc key.1 key.2)
  else match runFamily (decodeWith key spec s) s with
    | some r => r.state.commit r.nextPc r.cycles
    | none => s.raise (.operandShape s.pc key.1 key.2)

/-- `step(S, CATALOG)` (R71) with its run-state gate (R86): the next state, the outcome in `lastResult`. -/
def stepWith (cat : Catalog) (s : State) : State :=
  match s.run with
  | .halted => s.repeatHalt
  | .faulted => s.repeatError
  | .running => engineRun cat s

end Sys2Proof.Machine
end

