-- ==== Sys2Proof/Machine/Bus.lean ====
section
/-! DEFINITION. The memory accesses of one step, in their order (20_memory.md R38, R43, R48), under the default
catalog.  Nothing in the machine reads this list; it says what a step touches (log 24). -/

namespace Sys2Proof.Machine

/-- One access of the core to the bus. -/
inductive Access where
  | fetch (addr : Word)
  | read (addr : Word)
  | write (addr : Word) (v : Byte)
  deriving DecidableEq, Repr

/-- A 16-bit write as its two byte accesses, low byte first (R34). -/
def write16Accesses (addr v : Word) : List Access := [.write addr (loByte v), .write (addr + 1) (hiByte v)]

/-- The read of a source binding. -/
def sourceAccesses (b : Binding) : List Access :=
  match b with
  | .addr a _ => [.read a]
  | .slot8 _ | .slot16 _ | .val8 _ | .val16 _ | .noStorage _ => []

/-- The write of a destination binding. -/
def destAccesses (b : Binding) (v : Option Value) : List Access :=
  match b, v with
  | .addr a _, some (.byte v) => [.write a v]
  | .addr a _, some (.word v) => write16Accesses a v
  | _, _ => []

/-- The data accesses of an executed instruction: the table of R38. -/
def dataAccesses (d : DecodedInstruction) (s : State) : List Access :=
  let push (v : Word) : List Access := write16Accesses (s.read16 .SP - 2) v
  match d.mnemonic, d.bindings with
  | .LD, [dst, src] => sourceAccesses src ++ destAccesses dst (readSource src s)
  | .LDH, [dst, src] => sourceAccesses src ++ destAccesses dst (readSource src s)
  | .PUSH, [.slot16 p] => push (s.read16 p)
  | .RST, [.val16 _] => push (s.fallThrough d.length)
  | .CALL, _ => if d.taken s then push (s.fallThrough d.length) else []
  | _, _ => []

/-- All accesses of a step: none in a stopped state (R86); the opcode byte, the byte behind a prefix, the immediate
bytes of an executed instruction, then its data accesses; an illegal or unimplemented instruction's immediates are
not fetched (R48). -/
def stepAccesses (s : State) : List Access :=
  match s.run with
  | .halted | .faulted => []
  | .running =>
    let key := s.fetchKey
    let spec := defaultCatalog key.1 key.2
    if key.1 then [.fetch s.pc, .fetch (s.pc + 1)]
    else if spec.mnemonic.modeled then
      (List.range spec.length).map (fun k => .fetch (s.pc + BitVec.ofNat 16 k)) ++ dataAccesses (decodeWith key spec s) s
    else [.fetch s.pc]

/-- The effect of a list of accesses on memory: its writes, in order (R43). -/
def applyAccesses (m : Memory) (as : List Access) : Memory :=
  match as with
  | [] => m
  | .fetch _ :: rest => applyAccesses m rest
  | .read _ :: rest => applyAccesses m rest
  | .write a v :: rest => applyAccesses (m.writeCell a.toNat v) rest

/-- The address is read by an access of the list. -/
def readsAddr (as : List Access) (a : Word) : Bool := as.contains (.fetch a) || as.contains (.read a)

end Sys2Proof.Machine
end

