-- ==== Sys2Proof/Machine/Reset.lean ====
section
/-! DEFINITION. Reset with its parameters: catalog check, image load, the state of 10_state.md R24
(70_reset_and_hazards.md R180 to R183; 60_exceptions.md R166, R167). -/

namespace Sys2Proof.Machine

/-- The parameters of reset (00_scope.md R7): IMAGE with its length, RESET_REGS (the low four bits of `F` are no
parameter), MEM_INIT as the cells it sets, in order; a cell it does not name holds `Config.unlistedByte`, so every
content of memory can be given. -/
structure ResetParams where
  image   : List Byte
  a       : Byte
  b       : Byte
  c       : Byte
  d       : Byte
  e       : Byte
  h       : Byte
  l       : Byte
  flagZ   : Bool
  flagN   : Bool
  flagH   : Bool
  flagC   : Bool
  sp      : Word
  memInit : List (Word × Byte)
  deriving DecidableEq, Repr

/-- The memory MEM_INIT describes. -/
def initMemory (cells : List (Word × Byte)) : Memory :=
  cells.foldl (fun m c => m.writeCell c.1.toNat c.2) []

/-- `F` after reset: the four flags of RESET_REGS over four zero bits (R24). -/
def resetFlags (z n h c : Bool) : Byte :=
  BitVec.ofBool z ++ BitVec.ofBool n ++ BitVec.ofBool h ++ BitVec.ofBool c ++ 0#4

/-- The state after reset for given parameters (R24): the image from address 0 over MEM_INIT (R182). -/
def ResetParams.start (p : ResetParams) : State where
  a := p.a
  f := resetFlags p.flagZ p.flagN p.flagH p.flagC
  b := p.b
  c := p.c
  d := p.d
  e := p.e
  h := p.h
  l := p.l
  sp := p.sp
  pc := Config.resetPC
  mem := (initMemory p.memInit).storeFrom 0 p.image
  run := .running
  err := .none
  lastResult := .notYet

/-- Bring-up in the order of R181: the catalog is checked (CATALOG_INTEGRITY, R166), an image over 65536 bytes is
refused (IMAGE_TOO_LARGE, R167), else the state of R24.  A repeated reset is the same function: nothing of an earlier
run survives (R180). -/
def powerOn (cat : Catalog) (p : ResetParams) : Except ErrRecord State :=
  match cat.firstBad with
  | some key => .error (.catalogIntegrity key.1 key.2)
  | none => if 65536 < p.image.length then .error (.imageTooLarge p.image.length) else .ok p.start

/-- The code of an error record (60_exceptions.md R161). -/
def ErrRecord.code : ErrRecord → Nat
  | .none => 0
  | .illegalOpcode _ _ => 1
  | .unimplementedMnemonic _ _ _ => 2
  | .operandShape _ _ _ => 3
  | .addressRange _ => 4
  | .catalogIntegrity _ _ => 5
  | .imageTooLarge _ => 6

end Sys2Proof.Machine
end

