-- ==== Sys2Proof/Safety.lean ====
section
/-! DEFINITION. What counts as a safe run, the invariant of the machine, and the words the statements use to say what
a step leaves alone. -/

namespace Sys2Proof.Machine

/-! ## How a run stands (70_reset_and_hazards.md R192) -/

/-- The core would execute another instruction. -/
def State.isRunning (s : State) : Bool := s.run == .running

/-- A bad end: an illegal opcode was reached, or an instruction was refused. -/
def State.badEnd (s : State) : Bool := !s.isRunning

/-- The good end the spec suggests: a self-jump at `PC` with `RUN = RUNNING`, `JR -2` or `JP` to itself (R192; log 25). -/
def State.parked (s : State) : Bool :=
  s.isRunning && (decide (s.fetchInstr = .jr_e8 0xFE) || decide (s.fetchInstr = .jp_a16 s.pc)
    || (decide (s.fetchInstr = .jp_HL) && decide (s.read16 .HL = s.pc)))

/-- `n` steps. -/
def runSteps : Nat → State → Answer
  | 0, s => .next s
  | n + 1, s =>
    match step s with
    | .next t => runSteps n t
    | .fault r => .fault r
    | .refused r => .refused r

/-! ## The invariant -/

/-- `RUN`, `ERR` and the last result agree: `ERR` is `NONE` exactly in `RUNNING`, and in a stopped state it names the
instruction at `PC` that stopped the core (10_state.md R21, 60_exceptions.md R161, R169). -/
def State.stopAgrees (s : State) : Prop :=
  match s.run with
  | .running => s.err = .none ∧ (s.lastResult = .notYet ∨ ∃ cycles, s.lastResult = .ok ⟨cycles, false⟩)
  | .halted => s.lastResult = .ok ⟨0, true⟩ ∧ s.err = .illegalOpcode s.pc (s.busRead s.pc)
      ∧ (defaultCatalog false (s.busRead s.pc)).mnemonic = .ILLEGAL
  | .faulted => s.lastResult = .err s.err ∧ s.err = .unimplementedMnemonic s.pc s.fetchKey.1 s.fetchKey.2
      ∧ (defaultCatalog s.fetchKey.1 s.fetchKey.2).mnemonic.modeled = false
      ∧ (defaultCatalog s.fetchKey.1 s.fetchKey.2).mnemonic ≠ .ILLEGAL

/-- The invariant: memory in canonical form, bits 3 to 0 of `F` zero (10_state.md R14), the stop fields agreeing. -/
structure State.Inv (s : State) : Prop where
  memory : s.mem.wf = true
  lowF   : s.f &&& 0x0F = 0
  stops  : s.stopAgrees

/-! ## Frames -/

/-- Every 8-bit register outside the list holds what it held, and every memory byte outside the list too. -/
structure SameBut (regs : List Reg8) (cells : List Word) (s t : State) : Prop where
  keepsRegs  : ∀ r, r ∉ regs → t.read8 r = s.read8 r
  keepsCells : ∀ a, a ∉ cells → t.busRead a = s.busRead a

/-- The instruction completes with `t`: `exec` answers `t`, `PC` is `pc`, the outcome is `Ok` with the cycles,
not halted, and `RUN` and `ERR` are as before. -/
structure Completes (i : Instr) (s t : State) (pc : Word) (cycles : Nat) : Prop where
  answers : exec i s = .next t
  pc      : t.pc = pc
  result  : t.lastResult = .ok ⟨cycles, false⟩
  run     : t.run = s.run
  err     : t.err = s.err

/-- The two registers a pair overlays; `SP` overlays none (10_state.md R11, R12). -/
def halvesOf : PairSP → List Reg8
  | .BC => [.B, .C]
  | .DE => [.D, .E]
  | .HL => [.H, .L]
  | .SP => []

/-- `t` is `s` with `v` pushed: `SP` down by 2, the low byte of `v` at the new `SP`, the high byte one above, modulo
2^16; every 8-bit register and every other memory byte as before (45_call_rst_push.md R140). -/
structure Pushed (v : Word) (s t : State) : Prop where
  sp   : t.sp = s.sp - 2
  low  : t.busRead (s.sp - 2) = loByte v
  high : t.busRead (s.sp - 2 + 1) = hiByte v
  same : SameBut [] [s.sp - 2, s.sp - 2 + 1] s t

/-- The instruction ends the run with `t`: `exec` answers `t`, which differs from `s` in `RUN`, `ERR` and the result
only. -/
structure StopsWith (i : Instr) (s t : State) (run : RunState) (error : ErrRecord) (result : StepResult) : Prop where
  answers : exec i s = .next t
  run     : t.run = run
  err     : t.err = error
  result  : t.lastResult = result
  pc      : t.pc = s.pc
  sp      : t.sp = s.sp
  same    : SameBut [] [] s t

/-- The instruction has these bytes, they decode to it, and its entry in the default catalog is this one. -/
structure EncodedAs (i : Instr) (bytes : List Byte) (entry : InstructionSpec) : Prop where
  encodes : encode i = bytes
  decodes : decode bytes = .ok (i, [])
  catalog : i.spec = entry

/-! ## The instructions that stop the core, listed -/

/-- Row 0x of `unimplementedRows`. -/
def unimplementedRows0 : List (Instr × Byte) :=
  [(.inc_BC, 0x03), (.inc_B, 0x04), (.dec_B, 0x05), (.rlca, 0x07), (.add_HL_BC, 0x09), (.dec_BC, 0x0B),
    (.inc_C, 0x0C), (.dec_C, 0x0D), (.rrca, 0x0F)]

/-- Row 1x of `unimplementedRows`. -/
def unimplementedRows1 (n8 : Byte) : List (Instr × Byte) :=
  [(.stop_n8 n8, 0x10), (.inc_DE, 0x13), (.inc_D, 0x14), (.dec_D, 0x15), (.rla, 0x17), (.add_HL_DE, 0x19),
    (.dec_DE, 0x1B), (.inc_E, 0x1C), (.dec_E, 0x1D), (.rra, 0x1F)]

/-- Row 2x of `unimplementedRows`. -/
def unimplementedRows2 : List (Instr × Byte) :=
  [(.inc_HL, 0x23), (.inc_H, 0x24), (.dec_H, 0x25), (.daa, 0x27), (.add_HL_HL, 0x29), (.dec_HL, 0x2B),
    (.inc_L, 0x2C), (.dec_L, 0x2D), (.cpl, 0x2F)]

/-- Row 3x of `unimplementedRows`. -/
def unimplementedRows3 : List (Instr × Byte) :=
  [(.inc_SP, 0x33), (.inc_mHL, 0x34), (.dec_mHL, 0x35), (.scf, 0x37), (.add_HL_SP, 0x39), (.dec_SP, 0x3B),
    (.inc_A, 0x3C), (.dec_A, 0x3D), (.ccf, 0x3F)]

/-- Row 7x of `unimplementedRows`. -/
def unimplementedRows7 : List (Instr × Byte) :=
  [(.halt, 0x76)]

/-- Row 8x of `unimplementedRows`. -/
def unimplementedRows8 : List (Instr × Byte) :=
  [(.add_A_B, 0x80), (.add_A_C, 0x81), (.add_A_D, 0x82), (.add_A_E, 0x83), (.add_A_H, 0x84), (.add_A_L, 0x85),
    (.add_A_mHL, 0x86), (.add_A_A, 0x87), (.adc_A_B, 0x88), (.adc_A_C, 0x89), (.adc_A_D, 0x8A), (.adc_A_E, 0x8B),
    (.adc_A_H, 0x8C), (.adc_A_L, 0x8D), (.adc_A_mHL, 0x8E), (.adc_A_A, 0x8F)]

/-- Row 9x of `unimplementedRows`. -/
def unimplementedRows9 : List (Instr × Byte) :=
  [(.sub_A_B, 0x90), (.sub_A_C, 0x91), (.sub_A_D, 0x92), (.sub_A_E, 0x93), (.sub_A_H, 0x94), (.sub_A_L, 0x95),
    (.sub_A_mHL, 0x96), (.sub_A_A, 0x97), (.sbc_A_B, 0x98), (.sbc_A_C, 0x99), (.sbc_A_D, 0x9A), (.sbc_A_E, 0x9B),
    (.sbc_A_H, 0x9C), (.sbc_A_L, 0x9D), (.sbc_A_mHL, 0x9E), (.sbc_A_A, 0x9F)]

/-- Row Ax of `unimplementedRows`. -/
def unimplementedRowsA : List (Instr × Byte) :=
  [(.and_A_B, 0xA0), (.and_A_C, 0xA1), (.and_A_D, 0xA2), (.and_A_E, 0xA3), (.and_A_H, 0xA4), (.and_A_L, 0xA5),
    (.and_A_mHL, 0xA6), (.and_A_A, 0xA7), (.xor_A_B, 0xA8), (.xor_A_C, 0xA9), (.xor_A_D, 0xAA), (.xor_A_E, 0xAB),
    (.xor_A_H, 0xAC), (.xor_A_L, 0xAD), (.xor_A_mHL, 0xAE), (.xor_A_A, 0xAF)]

/-- Row Bx of `unimplementedRows`. -/
def unimplementedRowsB : List (Instr × Byte) :=
  [(.or_A_B, 0xB0), (.or_A_C, 0xB1), (.or_A_D, 0xB2), (.or_A_E, 0xB3), (.or_A_H, 0xB4), (.or_A_L, 0xB5),
    (.or_A_mHL, 0xB6), (.or_A_A, 0xB7), (.cp_A_B, 0xB8), (.cp_A_C, 0xB9), (.cp_A_D, 0xBA), (.cp_A_E, 0xBB),
    (.cp_A_H, 0xBC), (.cp_A_L, 0xBD), (.cp_A_mHL, 0xBE), (.cp_A_A, 0xBF)]

/-- Row Cx of `unimplementedRows`. -/
def unimplementedRowsC (n8 : Byte) : List (Instr × Byte) :=
  [(.ret_NZ, 0xC0), (.pop_BC, 0xC1), (.add_A_n8 n8, 0xC6), (.ret_Z, 0xC8), (.ret, 0xC9), (.adc_A_n8 n8, 0xCE)]

/-- Row Dx of `unimplementedRows`. -/
def unimplementedRowsD (n8 : Byte) : List (Instr × Byte) :=
  [(.ret_NC, 0xD0), (.pop_DE, 0xD1), (.sub_A_n8 n8, 0xD6), (.ret_C, 0xD8), (.reti, 0xD9), (.sbc_A_n8 n8, 0xDE)]

/-- Row Ex of `unimplementedRows`. -/
def unimplementedRowsE (n8 : Byte) : List (Instr × Byte) :=
  [(.pop_HL, 0xE1), (.and_A_n8 n8, 0xE6), (.add_SP_e8 n8, 0xE8), (.xor_A_n8 n8, 0xEE)]

/-- Row Fx of `unimplementedRows`. -/
def unimplementedRowsF (n8 : Byte) : List (Instr × Byte) :=
  [(.pop_AF, 0xF1), (.di, 0xF3), (.or_A_n8 n8, 0xF6), (.ei, 0xFB), (.cp_A_n8 n8, 0xFE)]

/-- The 123 unprefixed instructions the executor has no case for, with their opcode bytes (30_encoding.md R61), an
immediate at any value. -/
def unimplementedRows (n8 : Byte) : List (Instr × Byte) :=
  unimplementedRows0 ++ unimplementedRows1 n8 ++ unimplementedRows2 ++ unimplementedRows3 ++
    unimplementedRows7 ++ unimplementedRows8 ++ unimplementedRows9 ++ unimplementedRowsA ++ unimplementedRowsB ++
    unimplementedRowsC n8 ++ unimplementedRowsD n8 ++ unimplementedRowsE n8 ++ unimplementedRowsF n8

/-- The eight rotate, shift and swap groups of the prefixed set with their second bytes (30_encoding.md R63). -/
def shiftRows (r8 : Operand8) : List (Instr × Byte) :=
  [(.rlc r8, byteXYZ 0 0 r8.code), (.rrc r8, byteXYZ 0 1 r8.code), (.rl r8, byteXYZ 0 2 r8.code),
    (.rr r8, byteXYZ 0 3 r8.code), (.sla r8, byteXYZ 0 4 r8.code), (.sra r8, byteXYZ 0 5 r8.code),
    (.swap r8, byteXYZ 0 6 r8.code), (.srl r8, byteXYZ 0 7 r8.code)]

/-- The three bit groups of the prefixed set with their second bytes (30_encoding.md R63). -/
def bitRows (b3 : BitVec 3) (r8 : Operand8) : List (Instr × Byte) :=
  [(.bit b3 r8, byteXYZ 1 b3 r8.code), (.res b3 r8, byteXYZ 2 b3 r8.code), (.set b3 r8, byteXYZ 3 b3 r8.code)]

/-- The eleven groups of the prefixed set. -/
def prefixedRows (b3 : BitVec 3) (r8 : Operand8) : List (Instr × Byte) := shiftRows r8 ++ bitRows b3 r8

/-- Row Dx of `illegalRows`. -/
def illegalRowsD : List (Instr × Byte) :=
  [(.illegal_D3, 0xD3), (.illegal_DB, 0xDB), (.illegal_DD, 0xDD)]

/-- Row Ex of `illegalRows`. -/
def illegalRowsE : List (Instr × Byte) :=
  [(.illegal_E3, 0xE3), (.illegal_E4, 0xE4), (.illegal_EB, 0xEB), (.illegal_EC, 0xEC), (.illegal_ED, 0xED)]

/-- Row Fx of `illegalRows`. -/
def illegalRowsF : List (Instr × Byte) :=
  [(.illegal_F4, 0xF4), (.illegal_FC, 0xFC), (.illegal_FD, 0xFD)]

/-- The eleven illegal opcodes with their bytes (30_encoding.md R62). -/
def illegalRows : List (Instr × Byte) :=
  illegalRowsD ++ illegalRowsE ++ illegalRowsF

end Sys2Proof.Machine
end

