-- ==== Sys2Proof/Certificates/Slice0/Obligations.lean ====
section
/-! DEFINITION. The statements for the provers.  A rule number R<n> is one of spec/.  Every opcode byte but 0x00, 0x3E,
0x47, 0xC3, 0xCB and every cycle number is the spec's own, marked general knowledge there (log 2, log 3); arithmetic on
16-bit values is modulo 2^16 (R8; log 6).  A premise `s.mem.wf = true` is the canonical form of the memory list: a clause of
`State.Inv`, which every step keeps (StepKeepsInvariant).  The field `lastResult`, which holds what R84 says a step returns, is
the model's own (log 7). -/

section
open Sys2Proof Sys2Proof.Machine
open Sys2Proof.Catalog (exe)

/-! ## Encoding -/

/-- Encoding loses nothing: the bytes of a well-formed instruction, whatever bytes follow them, decode to that
instruction, at every value of every operand (30_encoding.md R50 to R64). -/
def Obligations.DecodeOfEncode : Prop :=
  ∀ (i : Instr) (rest : List Byte), i.wellFormed = true → decode (encode i ++ rest) = .ok (i, rest)

/-- Decoding loses nothing: whatever the three bytes at an address are, the instruction read from them encodes to as many of
them as its length says, and is well formed (R50, R60 to R64). -/
def Obligations.EncodeOfDecode : Prop :=
  ∀ b0 b1 b2 : Byte, encode (decode3 b0 b1 b2) = [b0, b1, b2].take (lengthOf b0) ∧
    (decode3 b0 b1 b2).wellFormed = true

/-- Every byte list decodes unless it ends inside its first instruction: no first byte, and no byte behind the prefix, is
refused (R58, R62). -/
def Obligations.DecodeRefusesOnlyShortLists : Prop :=
  ∀ bytes : List Byte, (∃ e, decode bytes = .error e) ↔ bytes.length < lengthOf (bytes.getD 0 0)

/-- A few words written out from R51, R60, R63: the images of R51 and R130, and one word of each family. -/
def Obligations.WrittenOutWordsDecode : Prop :=
  decode [0b00111110, 0x42] = .ok (.ld_A_n8 0x42, []) ∧
  decode [0b01000111] = .ok (.ld_B_A, []) ∧
  decode [0b00000000] = .ok (.nop, []) ∧
  decode [0b11000011, 0x04, 0x00] = .ok (.jp_a16 0x0004, []) ∧
  decode [0b00110001, 0xFE, 0xFF] = .ok (.ld_SP_n16 0xFFFE, []) ∧
  decode [0b11100000, 0x80] = .ok (.ldh_ma8_A 0x80, []) ∧
  decode [0b00111000, 0xFE] = .ok (.jr_C_e8 0xFE, []) ∧
  decode [0b11011100, 0x00, 0x20] = .ok (.call_C_a16 0x2000, []) ∧
  decode [0b11101111] = .ok (.rst_28, []) ∧
  decode [0b11110101] = .ok (.push_AF, []) ∧
  decode [0b01110110] = .ok (.halt, []) ∧
  decode [0b11001011, 0b01111100] = .ok (.bit 7 .H, []) ∧
  decode [0b11010011] = .ok (.illegal_D3, [])

/-- The decoder's key: the byte at `PC`, or, behind one prefix byte, the byte after it with `prefixed` true; a second
`0xCB` is the opcode itself (R72).  `fetchInstr` reads the opcode map of R60 to R63, `fetchKey` only the two bytes. -/
def Obligations.DecoderKeyIsTwoStepFetch : Prop :=
  (∀ s : State, s.busRead s.pc ≠ 0xCB → s.fetchInstr.key = (false, s.busRead s.pc)) ∧
  (∀ s : State, s.busRead s.pc = 0xCB → s.fetchInstr.key = (true, s.busRead (s.pc + 1)))

/-- The default catalog (log 2) passes the construction check: each of its 512 entries is well formed by R166.  That the
operand lists of unimplemented entries are those their spelling shows, without a flag-effect spec, is the model's choice
(log 23). -/
def Obligations.DefaultCatalogIsWellFormed : Prop :=
  defaultCatalog.firstBad = none ∧ ∀ (isPrefixed : Bool) (opcode : Byte),
    (defaultCatalog isPrefixed opcode).wf isPrefixed opcode = true

/-! ## Registers, flags, memory -/

/-- The pairs are views of the 8-bit registers: high byte first, a write of the view seen in both halves, a write of a half
seen in the view, `F` masked with 0xF0, nothing else changed (10_state.md R11). -/
def Obligations.PairsAreViews : Prop :=
  ∀ (s : State) (v : Word) (w : Byte),
    (∀ p ∈ [(Reg16.AF, Reg8.A, Reg8.F, (0xF0 : Byte)), (.BC, .B, .C, 0xFF), (.DE, .D, .E, 0xFF), (.HL, .H, .L, 0xFF)],
      s.read16 p.1 = pair (s.read8 p.2.1) (s.read8 p.2.2.1) ∧
      (s.write16 p.1 v).read8 p.2.1 = hiByte v ∧
      (s.write16 p.1 v).read8 p.2.2.1 = loByte v &&& p.2.2.2 ∧
      (s.write16 p.1 v).sp = s.sp ∧ (s.write16 p.1 v).pc = s.pc ∧ SameBut [p.2.1, p.2.2.1] [] s (s.write16 p.1 v) ∧
      (s.write8 p.2.1 w).read16 p.1 = pair w (s.read8 p.2.2.1) ∧
      (s.write8 p.2.2.1 w).read16 p.1 = pair (s.read8 p.2.1) (w &&& p.2.2.2))

/-- The flags sit in bits 7 to 4 of `F`, bits 3 to 0 read as zero in every state, and a write of one flag changes that bit and
nothing else (R14, R15). -/
def Obligations.FlagAccessorsTouchOneBit : Prop :=
  ∀ (s : State) (fl : Flag) (x : Bool),
    (s.getFlag .Z = (s.read8 .F).getLsbD 7 ∧ s.getFlag .N = (s.read8 .F).getLsbD 6 ∧
      s.getFlag .H = (s.read8 .F).getLsbD 5 ∧ s.getFlag .C = (s.read8 .F).getLsbD 4) ∧
    s.read8 .F &&& 0x0F = 0 ∧
    (s.setFlag fl x).getFlag fl = x ∧
    (∀ other, other ≠ fl → (s.setFlag fl x).getFlag other = s.getFlag other) ∧
    SameBut [.F] [] s (s.setFlag fl x) ∧ (s.setFlag fl x).sp = s.sp ∧ (s.setFlag fl x).pc = s.pc

/-- The condition codes: their sense, and that `N` and `H` take part in none (40_step_decode_resolve.md R78). -/
def Obligations.ConditionCodesReadZAndC : Prop :=
  (∀ s : State, s.cond .NZ = !s.getFlag .Z ∧ s.cond .Z = s.getFlag .Z ∧ s.cond .NC = !s.getFlag .C ∧
    s.cond .C = s.getFlag .C) ∧
  (∀ (s : State) (cc : Cond) (x : Bool), (s.setFlag .N x).cond cc = s.cond cc ∧ (s.setFlag .H x).cond cc = s.cond cc)

/-- A read returns the byte last written to the cell, else what the cell held; a write reaches its cell and nothing
else, at every address (20_memory.md R31, R32). -/
def Obligations.BusReadSeesLastWrite : Prop :=
  ∀ (s : State) (a x : Word) (v : Byte), s.mem.wf = true →
    (s.busWrite a v).busRead x = (if x = a then v else s.busRead x) ∧
    (s.busWrite a v).mem.wf = true ∧
    SameBut [] [a] s (s.busWrite a v) ∧ (s.busWrite a v).sp = s.sp ∧ (s.busWrite a v).pc = s.pc ∧
    (s.busWrite a v).run = s.run ∧ (s.busWrite a v).err = s.err ∧ (s.busWrite a v).lastResult = s.lastResult

/-- 16-bit accesses are little-endian, at two different cells modulo 2^16; a write changes nothing else, and the order of its
two byte writes, the spec's decision D18 (log 9), does not matter to the final memory (R33, R34). -/
def Obligations.Word16AccessIsLittleEndian : Prop :=
  ∀ (s : State) (a v : Word), s.mem.wf = true →
    s.busRead16 a = pair (s.busRead (a + 1)) (s.busRead a) ∧
    a + 1 ≠ a ∧
    (s.busWrite16 a v).busRead a = loByte v ∧ (s.busWrite16 a v).busRead (a + 1) = hiByte v ∧
    SameBut [] [a, a + 1] s (s.busWrite16 a v) ∧
    (s.busWrite16 a v).sp = s.sp ∧ (s.busWrite16 a v).pc = s.pc ∧ (s.busWrite16 a v).run = s.run ∧
    (s.busWrite16 a v).err = s.err ∧ (s.busWrite16 a v).lastResult = s.lastResult ∧
    (s.busWrite16 a v).busRead16 a = v ∧
    (s.busWrite16 a v).mem = ((s.busWrite (a + 1) (hiByte v)).busWrite a (loByte v)).mem

/-! ## Reset -/

/-- Bring-up with an image that fits leaves the state of R24: `PC` 0, `RUN` RUNNING, `ERR` NONE, `F[3:0]` zero, the
registers RESET_REGS gives, the image from address 0 over MEM_INIT (R182).  The values of `PC`, `RUN`, `ERR` are the
spec's decision D5. -/
def Obligations.PowerOnLeavesResetState : Prop :=
  ∀ p : ResetParams, p.image.length ≤ 65536 → ∃ s, powerOn defaultCatalog p = .ok s ∧
    s.pc = 0x0000 ∧ s.run = .running ∧ s.err = .none ∧ s.f &&& 0x0F = 0 ∧ s.sp = p.sp ∧
    (s.read8 .A = p.a ∧ s.read8 .B = p.b ∧ s.read8 .C = p.c ∧ s.read8 .D = p.d ∧ s.read8 .E = p.e ∧ s.read8 .H = p.h ∧
      s.read8 .L = p.l) ∧
    (s.getFlag .Z = p.flagZ ∧ s.getFlag .N = p.flagN ∧ s.getFlag .H = p.flagH ∧ s.getFlag .C = p.flagC) ∧
    s.mem.wf = true ∧
    (∀ a : Word, s.busRead a =
      if a.toNat < p.image.length then p.image.getD a.toNat 0 else (initMemory p.memInit).readCell a.toNat)

/-- An image longer than 65536 bytes is refused before the first step, whatever the catalog that passed its check
(60_exceptions.md R167). -/
def Obligations.OversizedImageIsRefused : Prop :=
  ∀ (cat : Catalog) (p : ResetParams), cat.firstBad = none → 65536 < p.image.length →
    powerOn cat p = .error (.imageTooLarge p.image.length)

/-- `State.reset` is the state bring-up leaves with no image and zero parameters; its `PC`, `RUN`, `ERR` and `F[3:0]` are
those of R24.  The zero registers (log 4), the zero bytes of memory (log 5) and `lastResult` (log 7) are the model's. -/
def Obligations.ResetValuesAreTheSpecs : Prop :=
  State.reset.pc = 0x0000 ∧ State.reset.run = .running ∧ State.reset.err = .none ∧ State.reset.f &&& 0x0F = 0 ∧
  State.reset.mem = [] ∧
  powerOn defaultCatalog ⟨[], 0, 0, 0, 0, 0, 0, 0, false, false, false, false, 0, []⟩ = .ok State.reset

/-- The invariant holds at reset. -/
def Obligations.InvariantHoldsAtReset : Prop := State.reset.Inv

/-! ## The step -/

/-- A running step executes the instruction the bytes at `PC` decode to, in the state it finds (R71, R72). -/
def Obligations.StepRunsTheDecodedInstruction : Prop :=
  ∀ (s : State) (i : Instr) (rest : List Byte), s.run = .running →
    decode [s.busRead s.pc, s.busRead (s.pc + 1), s.busRead (s.pc + 2)] = .ok (i, rest) → step s = exec i s

/-- Nothing stops the host's run: every instruction in every state, and every step, answers a next state.  That the spec's
error outcomes are next states, not faults or refusals of the host, is the model's reading of R152 and R169 (log 1). -/
def Obligations.EveryStepAnswersANextState : Prop :=
  (∀ (i : Instr) (s : State), ∃ t, exec i s = .next t) ∧ ∀ s : State, ∃ t, step s = .next t

/-- The outcomes of a running step, in the order of R168: an illegal opcode halts, a mnemonic without a case faults, each
writing `RUN`, `ERR` and the result only; any other instruction completes (R160, R162, R163, R169).  That a mnemonic without
a case faults is the spec's decision D7 (log 1); that the two stops leave `PC` alone and are kept D15, D16, D23 (log 11); the
order D22; the result is kept in the model's own field (log 7). -/
def Obligations.StepOutcomesAreClassified : Prop :=
  ∀ s : State, s.run = .running → ∃ t, step s = .next t ∧
    if (defaultCatalog s.fetchKey.1 s.fetchKey.2).mnemonic = .ILLEGAL then
      t = { s with run := .halted, err := .illegalOpcode s.pc (s.busRead s.pc), lastResult := .ok ⟨0, true⟩ }
    else if (defaultCatalog s.fetchKey.1 s.fetchKey.2).mnemonic.modeled = false then
      t = { s with run := .faulted, err := .unimplementedMnemonic s.pc s.fetchKey.1 s.fetchKey.2,
                   lastResult := .err (.unimplementedMnemonic s.pc s.fetchKey.1 s.fetchKey.2) }
    else t.run = .running ∧ t.err = s.err ∧ ∃ cycles,
      t.lastResult = .ok ⟨cycles, false⟩ ∧ cycles ∈ (defaultCatalog s.fetchKey.1 s.fetchKey.2).cycles

/-- A stopped core is inert however often it is stepped: only the returned result is repeated (R86, decision D23; log 10,
log 7). -/
def Obligations.StoppedCoreIsInert : Prop :=
  ∀ (s : State) (n : Nat),
    (s.run = .halted → runSteps (n + 1) s = .next { s with lastResult := .ok ⟨0, true⟩ }) ∧
    (s.run = .faulted → runSteps (n + 1) s = .next { s with lastResult := .err s.err })

/-- Every step keeps the invariant: canonical memory, `F[3:0]` zero, `RUN`, `ERR` and the result in agreement with the
instruction at `PC` (R14, R21, R161, R169).  That `PC` stays at the instruction that stopped the core, and `RUN` and `ERR` stay
as it left them, is the spec's decision D15, D16, D23 (log 11); the clause on the result is about the model's own field
(log 7). -/
def Obligations.StepKeepsInvariant : Prop :=
  ∀ s t : State, s.Inv → step s = .next t → t.Inv

/-- The meanings agree with the engine: the step of the machine is the catalog-driven step of R70 to R87 under the
default catalog, in every state.  That the machine is written twice is the model's choice (log 22). -/
def Obligations.StepIsTheCatalogEngine : Prop :=
  ∀ s : State, step s = .next (stepWith defaultCatalog s)

/-- For any catalog, a modeled mnemonic with an operand list that is no row of R83 faults with OPERAND_SHAPE and writes nothing
else; a list that is a row of R83 never does, and no entry of the default catalog is affected (R164).  It speaks of `stepWith`,
the engine over any catalog, which the model has beside its step by its own choice (log 22). -/
def Obligations.OperandShapeViolationFaults : Prop :=
  (∀ (cat : Catalog) (s : State), s.run = .running →
    (cat s.fetchKey.1 s.fetchKey.2).mnemonic.modeled = true →
    shapeOk (cat s.fetchKey.1 s.fetchKey.2).mnemonic (cat s.fetchKey.1 s.fetchKey.2).operands = false →
    stepWith cat s = { s with run := .faulted, err := .operandShape s.pc s.fetchKey.1 s.fetchKey.2,
                              lastResult := .err (.operandShape s.pc s.fetchKey.1 s.fetchKey.2) }) ∧
  (∀ (cat : Catalog) (s : State), s.run = .running →
    (cat s.fetchKey.1 s.fetchKey.2).mnemonic.modeled = true →
    shapeOk (cat s.fetchKey.1 s.fetchKey.2).mnemonic (cat s.fetchKey.1 s.fetchKey.2).operands = true →
    (stepWith cat s).run = .running ∧ (stepWith cat s).err = s.err) ∧
  (∀ (isPrefixed : Bool) (opcode : Byte), (defaultCatalog isPrefixed opcode).mnemonic.modeled = true →
    shapeOk (defaultCatalog isPrefixed opcode).mnemonic (defaultCatalog isPrefixed opcode).operands = true)

/-- What a step does to memory is its write accesses in their order, and nothing more (20_memory.md R38, R43, R48).  The order is
the spec's decision D18 (log 9); that the list is a function of the state is the model's choice (log 24). -/
def Obligations.StepWritesOnlyItsAccesses : Prop :=
  ∀ s t : State, step s = .next t → t.mem = applyAccesses s.mem (stepAccesses s)

/-- What a step does depends on memory only through the bytes its accesses read: give another state with the same
registers the same bytes there, and it makes the same accesses and the same next state but for the rest of memory (R43,
R48, 40_step_decode_resolve.md R87).  The list of accesses is the model's (log 24; an instruction that is not executed fetches
no immediate in it, log 17), its order the spec's decision D18 (log 9). -/
def Obligations.StepDependsOnlyOnWhatItReads : Prop :=
  ∀ (s t : State) (m : Memory), step s = .next t →
    (∀ a : Word, readsAddr (stepAccesses s) a = true → ({ s with mem := m } : State).busRead a = s.busRead a) →
    stepAccesses { s with mem := m } = stepAccesses s ∧
    step { s with mem := m } = .next { t with mem := applyAccesses m (stepAccesses s) }

/-- Only `LD HL,SP+e8` writes flags: every other instruction leaves all of `F` (10_state.md R17). -/
def Obligations.OnlyLdHLSPe8WritesFlags : Prop :=
  ∀ (i : Instr) (s t : State), exec i s = .next t → (∀ e8, i ≠ .ld_HL_SPe8 e8) → t.f = s.f

/-- `SP` moves down by 2 in a push, is loaded by `LD SP,n16` and `LD SP,HL`, and is otherwise left alone (R19, R140). -/
def Obligations.StackPointerMovesOnlyByPushOrLoad : Prop :=
  ∀ (i : Instr) (s t : State), exec i s = .next t →
    t.sp = s.sp ∨ (∃ n16, i = .ld_SP_n16 n16 ∧ t.sp = n16) ∨ (i = .ld_SP_HL ∧ t.sp = s.read16 .HL) ∨
    (t.sp = s.sp - 2 ∧ (i.spec.mnemonic = .PUSH ∨ i.spec.mnemonic = .CALL ∨ i.spec.mnemonic = .RST))

/-- A core parked in a self-jump stays there: the next step changes no register, no memory, not `PC`, and is parked again
(70_reset_and_hazards.md R192; that this is the good end is decision D23, log 25). -/
def Obligations.ParkedCoreStaysParked : Prop :=
  ∀ s : State, s.parked = true → ∃ t, step s = .next t ∧ t.parked = true ∧ t.pc = s.pc ∧ t.sp = s.sp ∧
    t.run = .running ∧ t.err = s.err ∧ t.mem = s.mem ∧ SameBut [] [] s t

/-- A store over its own opcode executes as it was fetched, and the next fetch of the address sees the new byte (R46,
R186): `LD (HL),A` with `HL` at `PC`. -/
def Obligations.SelfOverwritingStoreRunsAsFetched : Prop :=
  ∀ s : State, s.mem.wf = true → s.run = .running → s.busRead s.pc = 0x77 → s.read16 .HL = s.pc →
    ∃ t, step s = .next t ∧ t.pc = s.pc + 1 ∧ t.lastResult = .ok ⟨8, false⟩ ∧ t.busRead s.pc = s.a ∧
      SameBut [] [s.pc] s t ∧ t.sp = s.sp ∧ t.run = .running ∧ t.err = s.err ∧
      ({ t with pc := s.pc } : State).fetchInstr = decode3 s.a (s.busRead (s.pc + 1)) (s.busRead (s.pc + 2))

/-- `LD (HL+),A` then `LD (HL-),A` return `HL` to its value, and the two cells hold `A` (41_ld8.md R97, R98). -/
def Obligations.StoreIncrementThenDecrementRestoresHL : Prop :=
  ∀ s : State, s.mem.wf = true → ∃ t u, exec .ld_mHLi_A s = .next t ∧ exec .ld_mHLd_A t = .next u ∧
    u.read16 .HL = s.read16 .HL ∧ u.busRead (s.read16 .HL) = s.read8 .A ∧ u.busRead (s.read16 .HL + 1) = s.read8 .A ∧
    SameBut [] [s.read16 .HL, s.read16 .HL + 1] s u ∧ u.sp = s.sp ∧ u.pc = s.pc + 2 ∧ u.run = s.run ∧ u.err = s.err

/-! ## LD, 8-bit forms: encoding, result, frame, completion -/

/-- `LD r8,r8'`, the 49 constructors `ld_B_B` to `ld_A_A` without the `(HL)` ones (R90); byte 0x76 is `HALT`, not an `LD`. -/
def Obligations.LdRegRegCopies : Prop :=
  decode [0x76] = .ok (.halt, []) ∧
  ∀ (d r : Gpr) (s : State),
    EncodedAs (.ldRR d r) [byteXYZ 0b01 d.code r.code] (exe .LD 1 [4] [.r8 d.reg, .r8 r.reg]) ∧
    ∃ t, Completes (.ldRR d r) s t (s.pc + 1) 4 ∧ t.read8 d.reg = s.read8 r.reg ∧ SameBut [d.reg] [] s t ∧ t.sp = s.sp

/-- `LD r8,(HL)`, the seven constructors `ld_B_mHL` to `ld_A_mHL`: the address is the old `HL`, also when `d` is `H` or `L`
(R91). -/
def Obligations.LdRegFromHLLoads : Prop :=
  ∀ (d : Gpr) (s : State),
    EncodedAs (.ldRmHL d) [byteXYZ 0b01 d.code 0b110] (exe .LD 1 [8] [.r8 d.reg, .m16 .HL]) ∧
    ∃ t, Completes (.ldRmHL d) s t (s.pc + 1) 8 ∧ t.read8 d.reg = s.busRead (s.read16 .HL) ∧
      SameBut [d.reg] [] s t ∧ t.sp = s.sp

/-- `LD (HL),r8`, the seven constructors `ld_mHL_B` to `ld_mHL_A` (R92). -/
def Obligations.LdRegToHLStores : Prop :=
  ∀ (r : Gpr) (s : State), s.mem.wf = true →
    EncodedAs (.ldmHLR r) [byteXYZ 0b01 0b110 r.code] (exe .LD 1 [8] [.m16 .HL, .r8 r.reg]) ∧
    ∃ t, Completes (.ldmHLR r) s t (s.pc + 1) 8 ∧ t.busRead (s.read16 .HL) = s.read8 r.reg ∧
      SameBut [] [s.read16 .HL] s t ∧ t.sp = s.sp

/-- `LD r8,n8`, the seven constructors `ld_B_n8` to `ld_A_n8` (R93). -/
def Obligations.LdRegImmLoads : Prop :=
  ∀ (d : Gpr) (n8 : Byte) (s : State),
    EncodedAs (.ldRn8 n8 d) [byteXYZ 0b00 d.code 0b110, n8] (exe .LD 2 [8] [.r8 d.reg, .n8]) ∧
    ∃ t, Completes (.ldRn8 n8 d) s t (s.pc + 2) 8 ∧ t.read8 d.reg = n8 ∧ SameBut [d.reg] [] s t ∧ t.sp = s.sp

/-- `LD (HL),n8`, `ld_mHL_n8` (R94). -/
def Obligations.LdImmToHLStores : Prop :=
  ∀ (n8 : Byte) (s : State), s.mem.wf = true →
    EncodedAs (.ld_mHL_n8 n8) [0x36, n8] (exe .LD 2 [12] [.m16 .HL, .n8]) ∧
    ∃ t, Completes (.ld_mHL_n8 n8) s t (s.pc + 2) 12 ∧ t.busRead (s.read16 .HL) = n8 ∧
      SameBut [] [s.read16 .HL] s t ∧ t.sp = s.sp

/-- `LD (BC),A` and `LD (DE),A`, `ld_mBC_A` and `ld_mDE_A` (R95, R96). -/
def Obligations.LdAToPairAddressStores : Prop :=
  ∀ s : State, s.mem.wf = true → ∀ f ∈ [(Instr.ld_mBC_A, (0x02 : Byte), Reg16.BC), (.ld_mDE_A, 0x12, .DE)],
    EncodedAs f.1 [f.2.1] (exe .LD 1 [8] [.m16 f.2.2, .r8 .A]) ∧
    ∃ t, Completes f.1 s t (s.pc + 1) 8 ∧ t.busRead (s.read16 f.2.2) = s.read8 .A ∧
      SameBut [] [s.read16 f.2.2] s t ∧ t.sp = s.sp

/-- `LD (HL+),A` and `LD (HL-),A`, `ld_mHLi_A` and `ld_mHLd_A`: the store at the old `HL`, then `HL` moves by one as a 16-bit
quantity, no flag written (R97, R98). -/
def Obligations.LdAToHLAdjustsAfterStore : Prop :=
  ∀ s : State, s.mem.wf = true →
    ∀ f ∈ [(Instr.ld_mHLi_A, (0x22 : Byte), OperandSpec.mHLi, (1 : Word)), (.ld_mHLd_A, 0x32, .mHLd, -1)],
      EncodedAs f.1 [f.2.1] (exe .LD 1 [8] [f.2.2.1, .r8 .A]) ∧
      ∃ t, Completes f.1 s t (s.pc + 1) 8 ∧ t.busRead (s.read16 .HL) = s.read8 .A ∧
        t.read16 .HL = s.read16 .HL + f.2.2.2 ∧ SameBut [.H, .L] [s.read16 .HL] s t ∧ t.sp = s.sp

/-- `LD A,(BC)` and `LD A,(DE)`, `ld_A_mBC` and `ld_A_mDE` (R99, R100). -/
def Obligations.LdAFromPairAddressLoads : Prop :=
  ∀ s : State, ∀ f ∈ [(Instr.ld_A_mBC, (0x0A : Byte), Reg16.BC), (.ld_A_mDE, 0x1A, .DE)],
    EncodedAs f.1 [f.2.1] (exe .LD 1 [8] [.r8 .A, .m16 f.2.2]) ∧
    ∃ t, Completes f.1 s t (s.pc + 1) 8 ∧ t.read8 .A = s.busRead (s.read16 f.2.2) ∧ SameBut [.A] [] s t ∧ t.sp = s.sp

/-- `LD A,(HL+)` and `LD A,(HL-)`, `ld_A_mHLi` and `ld_A_mHLd`: the load from the old `HL`, then `HL` moves by one (R101,
R102). -/
def Obligations.LdAFromHLAdjustsAfterLoad : Prop :=
  ∀ s : State, ∀ f ∈ [(Instr.ld_A_mHLi, (0x2A : Byte), OperandSpec.mHLi, (1 : Word)), (.ld_A_mHLd, 0x3A, .mHLd, -1)],
    EncodedAs f.1 [f.2.1] (exe .LD 1 [8] [.r8 .A, f.2.2.1]) ∧
    ∃ t, Completes f.1 s t (s.pc + 1) 8 ∧ t.read8 .A = s.busRead (s.read16 .HL) ∧
      t.read16 .HL = s.read16 .HL + f.2.2.2 ∧ SameBut [.A, .H, .L] [] s t ∧ t.sp = s.sp

/-- `LD (a16),A`, `ld_ma16_A` (R103). -/
def Obligations.LdAToAbsoluteStores : Prop :=
  ∀ (a16 : Word) (s : State), s.mem.wf = true →
    EncodedAs (.ld_ma16_A a16) [0xEA, loByte a16, hiByte a16] (exe .LD 3 [16] [.mA16, .r8 .A]) ∧
    ∃ t, Completes (.ld_ma16_A a16) s t (s.pc + 3) 16 ∧ t.busRead a16 = s.read8 .A ∧ SameBut [] [a16] s t ∧ t.sp = s.sp

/-- `LD A,(a16)`, `ld_A_ma16` (R104). -/
def Obligations.LdAFromAbsoluteLoads : Prop :=
  ∀ (a16 : Word) (s : State),
    EncodedAs (.ld_A_ma16 a16) [0xFA, loByte a16, hiByte a16] (exe .LD 3 [16] [.r8 .A, .mA16]) ∧
    ∃ t, Completes (.ld_A_ma16 a16) s t (s.pc + 3) 16 ∧ t.read8 .A = s.busRead a16 ∧ SameBut [.A] [] s t ∧ t.sp = s.sp

/-! ## LD, 16-bit forms -/

/-- `LD r16,n16`, the four constructors `ld_BC_n16`, `ld_DE_n16`, `ld_HL_n16`, `ld_SP_n16`: the second immediate byte into the
high register (R110). -/
def Obligations.LdPairImmLoads : Prop :=
  ∀ (d : PairSP) (n16 : Word) (s : State),
    EncodedAs (.ldR16n16 n16 d) [byteXPQZ 0b00 d.code 0 0b001, loByte n16, hiByte n16]
      (exe .LD 3 [12] [.r16 d.reg, .n16]) ∧
    ∃ t, Completes (.ldR16n16 n16 d) s t (s.pc + 3) 12 ∧ t.read16 d.reg = n16 ∧ SameBut (halvesOf d) [] s t ∧
      (d ≠ .SP → t.sp = s.sp)

/-- `LD (a16),SP`, `ld_ma16_SP`: 16 bits, low byte at `a16` (R111, decision D9). -/
def Obligations.LdSPToAbsoluteStores : Prop :=
  ∀ (a16 : Word) (s : State), s.mem.wf = true →
    EncodedAs (.ld_ma16_SP a16) [0x08, loByte a16, hiByte a16] (exe .LD 3 [20] [.mA16, .r16 .SP]) ∧
    ∃ t, Completes (.ld_ma16_SP a16) s t (s.pc + 3) 20 ∧ t.busRead a16 = loByte s.sp ∧
      t.busRead (a16 + 1) = hiByte s.sp ∧ SameBut [] [a16, a16 + 1] s t ∧ t.sp = s.sp

/-- `LD SP,HL`, `ld_SP_HL` (R112, decision D9). -/
def Obligations.LdSPFromHLCopies : Prop :=
  ∀ s : State, EncodedAs .ld_SP_HL [0xF9] (exe .LD 1 [8] [.r16 .SP, .r16 .HL]) ∧
    ∃ t, Completes .ld_SP_HL s t (s.pc + 1) 8 ∧ t.sp = s.read16 .HL ∧ SameBut [] [] s t

/-- `LD HL,SP+e8`, `ld_HL_SPe8`: the sum modulo 2^16; `Z` and `N` cleared; `H` and `C` the carries of the unsigned low-nibble
and low-byte sums; `SP` unchanged (R114, decision D10). -/
def Obligations.LdHLFromSPPlusOffset : Prop :=
  ∀ (e8 : Byte) (s : State),
    EncodedAs (.ld_HL_SPe8 e8) [0xF8, e8] ⟨.LD, 2, [12], [.r16 .HL, .r16 .SP, .e8], some .spE8⟩ ∧
    ∃ t, Completes (.ld_HL_SPe8 e8) s t (s.pc + 2) 12 ∧ t.read16 .HL = s.sp + sext16 e8 ∧
      t.getFlag .Z = false ∧ t.getFlag .N = false ∧
      t.getFlag .H = decide (s.sp.toNat % 16 + e8.toNat % 16 > 0x0F) ∧
      t.getFlag .C = decide (s.sp.toNat % 256 + e8.toNat > 0xFF) ∧
      t.read8 .F &&& 0x0F = 0 ∧ SameBut [.H, .L, .F] [] s t ∧ t.sp = s.sp

/-! ## LDH -/

/-- `LDH (a8),A` and `LDH (C),A`, `ldh_ma8_A` and `ldh_mC_A`: the store at `0xFF00 + offset`, zero-extended (43_ldh.md R121,
R123). -/
def Obligations.LdhStoresToHighPage : Prop :=
  ∀ (a8 : Byte) (s : State), s.mem.wf = true →
    highPage a8 = pair 0xFF a8 ∧
    EncodedAs (.ldh_ma8_A a8) [0xE0, a8] (exe .LDH 2 [12] [.mA8, .r8 .A]) ∧
    (∃ t, Completes (.ldh_ma8_A a8) s t (s.pc + 2) 12 ∧ t.busRead (highPage a8) = s.read8 .A ∧
      SameBut [] [highPage a8] s t ∧ t.sp = s.sp) ∧
    EncodedAs .ldh_mC_A [0xE2] (exe .LDH 1 [8] [.mC, .r8 .A]) ∧
    (∃ t, Completes .ldh_mC_A s t (s.pc + 1) 8 ∧ t.busRead (highPage (s.read8 .C)) = s.read8 .A ∧
      SameBut [] [highPage (s.read8 .C)] s t ∧ t.sp = s.sp)

/-- `LDH A,(a8)` and `LDH A,(C)`, `ldh_A_ma8` and `ldh_A_mC` (R122, R124). -/
def Obligations.LdhLoadsFromHighPage : Prop :=
  ∀ (a8 : Byte) (s : State),
    highPage a8 = pair 0xFF a8 ∧
    EncodedAs (.ldh_A_ma8 a8) [0xF0, a8] (exe .LDH 2 [12] [.r8 .A, .mA8]) ∧
    (∃ t, Completes (.ldh_A_ma8 a8) s t (s.pc + 2) 12 ∧ t.read8 .A = s.busRead (highPage a8) ∧
      SameBut [.A] [] s t ∧ t.sp = s.sp) ∧
    EncodedAs .ldh_A_mC [0xF2] (exe .LDH 1 [8] [.r8 .A, .mC]) ∧
    (∃ t, Completes .ldh_A_mC s t (s.pc + 1) 8 ∧ t.read8 .A = s.busRead (highPage (s.read8 .C)) ∧
      SameBut [.A] [] s t ∧ t.sp = s.sp)

/-! ## JP, JR -/

/-- `JP a16`, `jp_a16`: `PC` only (44_jp_jr.md R130). -/
def Obligations.JpAbsoluteJumps : Prop :=
  ∀ (a16 : Word) (s : State),
    EncodedAs (.jp_a16 a16) [0xC3, loByte a16, hiByte a16] (exe .JP 3 [16] [.n16]) ∧
    ∃ t, Completes (.jp_a16 a16) s t a16 16 ∧ SameBut [] [] s t ∧ t.sp = s.sp

/-- `JP cc,a16`, the four constructors `jp_NZ_a16`, `jp_Z_a16`, `jp_NC_a16`, `jp_C_a16`: taken or an exact fall through, each
with its cost (R131). -/
def Obligations.JpConditionalJumps : Prop :=
  ∀ (cc : Cond) (a16 : Word) (s : State),
    EncodedAs (.jpCC a16 cc) [byteXYZ 0b11 (0b0#1 ++ cc.code) 0b010, loByte a16, hiByte a16]
      (exe .JP 3 [16, 12] [.cond cc, .n16]) ∧
    ∃ t, Completes (.jpCC a16 cc) s t (if s.cond cc then a16 else s.pc + 3) (if s.cond cc then 16 else 12) ∧
      SameBut [] [] s t ∧ t.sp = s.sp

/-- `JP HL`, `jp_HL`: the value of `HL` (R132). -/
def Obligations.JpHLJumps : Prop :=
  ∀ s : State, EncodedAs .jp_HL [0xE9] (exe .JP 1 [4] [.r16 .HL]) ∧
    ∃ t, Completes .jp_HL s t (s.read16 .HL) 4 ∧ SameBut [] [] s t ∧ t.sp = s.sp

/-- `JR e8`, `jr_e8`: relative to the following instruction, `base + 2` (R133, decision D11). -/
def Obligations.JrJumpsRelative : Prop :=
  ∀ (e8 : Byte) (s : State),
    EncodedAs (.jr_e8 e8) [0x18, e8] (exe .JR 2 [12] [.e8]) ∧
    ∃ t, Completes (.jr_e8 e8) s t (s.pc + 2 + sext16 e8) 12 ∧ SameBut [] [] s t ∧ t.sp = s.sp

/-- `JR cc,e8`, the four constructors `jr_NZ_e8`, `jr_Z_e8`, `jr_NC_e8`, `jr_C_e8` (R134, decision D11). -/
def Obligations.JrConditionalJumps : Prop :=
  ∀ (cc : Cond) (e8 : Byte) (s : State),
    EncodedAs (.jrCC e8 cc) [byteXYZ 0b00 (0b1#1 ++ cc.code) 0b000, e8] (exe .JR 2 [12, 8] [.cond cc, .e8]) ∧
    ∃ t, Completes (.jrCC e8 cc) s t (if s.cond cc then s.pc + 2 + sext16 e8 else s.pc + 2)
        (if s.cond cc then 12 else 8) ∧
      SameBut [] [] s t ∧ t.sp = s.sp

/-! ## CALL, RST, PUSH -/

/-- `CALL a16`, `call_a16`: pushes `base + 3`, jumps to the target fetched before the push (45_call_rst_push.md R141). -/
def Obligations.CallPushesReturnAddress : Prop :=
  ∀ (a16 : Word) (s : State), s.mem.wf = true →
    EncodedAs (.call_a16 a16) [0xCD, loByte a16, hiByte a16] (exe .CALL 3 [24] [.n16]) ∧
    ∃ t, Completes (.call_a16 a16) s t a16 24 ∧ Pushed (s.pc + 3) s t

/-- `CALL cc,a16`, the four constructors `call_NZ_a16`, `call_Z_a16`, `call_NC_a16`, `call_C_a16`: not taken pushes nothing and
does not move `SP` (R142, decision D13). -/
def Obligations.CallConditionalPushesWhenTaken : Prop :=
  ∀ (cc : Cond) (a16 : Word) (s : State), s.mem.wf = true →
    EncodedAs (.callCC a16 cc) [byteXYZ 0b11 (0b0#1 ++ cc.code) 0b100, loByte a16, hiByte a16]
      (exe .CALL 3 [24, 12] [.cond cc, .n16]) ∧
    ∃ t, Completes (.callCC a16 cc) s t (if s.cond cc then a16 else s.pc + 3) (if s.cond cc then 24 else 12) ∧
      if s.cond cc then Pushed (s.pc + 3) s t else SameBut [] [] s t ∧ t.sp = s.sp

/-- `RST vec`, the eight constructors `rst_00` to `rst_38`: pushes `base + 1`, jumps to `8 * t` (R143, decisions D12, D14). -/
def Obligations.RstPushesAndVectors : Prop :=
  ∀ (v : BitVec 3) (s : State), s.mem.wf = true →
    EncodedAs (.rstT v) [byteXYZ 0b11 v 0b111] (exe .RST 1 [16] [.vec (BitVec.ofNat 16 (8 * v.toNat))]) ∧
    ∃ t, Completes (.rstT v) s t (BitVec.ofNat 16 (8 * v.toNat)) 16 ∧ Pushed (s.pc + 1) s t

/-- `PUSH r16`, the four constructors `push_BC`, `push_DE`, `push_HL`, `push_AF` (R144). -/
def Obligations.PushStoresPair : Prop :=
  ∀ (p : PairAF) (s : State), s.mem.wf = true →
    EncodedAs (.pushP p) [byteXPQZ 0b11 p.code 0 0b101] (exe .PUSH 1 [16] [.r16 p.reg]) ∧
    ∃ t, Completes (.pushP p) s t (s.pc + 1) 16 ∧ Pushed (s.read16 p.reg) s t

/-! ## NOP, the unimplemented and the illegal -/

/-- `NOP`, `nop`: `PC` only, and no memory access but the fetch of the opcode (46_nop_unimplemented_illegal.md R150). -/
def Obligations.NopAdvancesOnly : Prop :=
  ∀ s : State, EncodedAs .nop [0x00] (exe .NOP 1 [4] []) ∧
    (∃ t, Completes .nop s t (s.pc + 1) 4 ∧ SameBut [] [] s t ∧ t.sp = s.sp) ∧
    (s.run = .running → s.busRead s.pc = 0x00 → stepAccesses s = [.fetch s.pc])

/-- The 123 constructors of `unimplementedRows`, `stop_n8` to `ei`: UNIMPLEMENTED_MNEMONIC with `base`, false and the opcode;
nothing else written, whatever the immediate and the registers (R151, R152, R156, R163; decisions D7, D8). -/
def Obligations.UnimplementedOpcodeFaults : Prop :=
  ∀ (n8 : Byte) (s : State), (unimplementedRows n8).length = 123 ∧ ∀ p ∈ unimplementedRows n8,
    (encode p.1).head? = some p.2 ∧ p.1.spec.mnemonic.modeled = false ∧ p.1.spec.mnemonic ≠ .ILLEGAL ∧
    ∃ t, StopsWith p.1 s t .faulted (.unimplementedMnemonic s.pc false p.2)
      (.err (.unimplementedMnemonic s.pc false p.2))

/-- The prefixed set, the eleven constructors `rlc` to `set` at every operand: UNIMPLEMENTED_MNEMONIC with `base`, true and
the second byte; together they are all 256 second bytes (R63, R154; decision D7). -/
def Obligations.PrefixedOpcodeFaults : Prop :=
  (∀ (b3 : BitVec 3) (r8 : Operand8) (s : State), ∀ p ∈ prefixedRows b3 r8,
    encode p.1 = [0xCB, p.2] ∧ decode [0xCB, p.2] = .ok (p.1, []) ∧
    ∃ t, StopsWith p.1 s t .faulted (.unimplementedMnemonic s.pc true p.2)
      (.err (.unimplementedMnemonic s.pc true p.2))) ∧
  (∀ b1 : Byte, ∃ b3 r8, ∃ p ∈ prefixedRows b3 r8, p.2 = b1)

/-- The eleven illegal opcodes, the constructors of `illegalRows`: the core halts at the opcode, the step is a successful one
with 0 cycles and `halted` (R155, R162; decision D15). -/
def Obligations.IllegalOpcodeHalts : Prop :=
  ∀ s : State, illegalRows.length = 11 ∧ ∀ p ∈ illegalRows,
    EncodedAs p.1 [p.2] Catalog.illegal ∧
    ∃ t, StopsWith p.1 s t .halted (.illegalOpcode s.pc p.2) (.ok ⟨0, true⟩)

/-- The entry at key `(false, 0xCB)` is `PREFIX`, length 1, and no bytes decode to it (30_encoding.md R64, decision D24); the
constructor `prefixCB` that stands for it is no modeled family, so its meaning is the outcome of R152 (log 18). -/
def Obligations.PrefixEntryIsNeverDecoded : Prop :=
  defaultCatalog false 0xCB = Catalog.other .PREFIX 1 [4] [] ∧
  (∀ (bytes : List Byte) (i : Instr) (rest : List Byte), decode bytes = .ok (i, rest) → i ≠ .prefixCB) ∧
  (∀ s : State, ∃ t, StopsWith .prefixCB s t .faulted (.unimplementedMnemonic s.pc false 0xCB)
    (.err (.unimplementedMnemonic s.pc false 0xCB)))

end
end

