-- ==== Sys2Proof/Laws/Bits.lean ====
section
/-! SUPPORT. Small facts about slices and concatenation of bytes. -/

namespace Sys2Proof

/-- A bit of `{hi, lo}`. -/
theorem getLsbD_pair (hi lo : Byte) (i : Nat) :
    (pair hi lo).getLsbD i = if i < 8 then lo.getLsbD i else hi.getLsbD (i - 8) :=
  (BitVec.getLsbD_append (x := hi) (y := lo) (i := i)).trans (by split <;> simp_all)

@[simp] theorem loByte_pair (hi lo : Byte) : loByte (pair hi lo) = lo := by
  apply BitVec.eq_of_getLsbD_eq
  intro i h
  simp [loByte, getLsbD_pair, h]

@[simp] theorem hiByte_pair (hi lo : Byte) : hiByte (pair hi lo) = hi := by
  apply BitVec.eq_of_getLsbD_eq
  intro i h
  simp [hiByte, getLsbD_pair, h]

@[simp] theorem pair_hiByte_loByte (v : Word) : pair (hiByte v) (loByte v) = v := by
  apply BitVec.eq_of_getLsbD_eq
  intro i h
  rw [getLsbD_pair]
  split
  · simp_all [loByte]
  · have : i - 8 < 8 := by omega
    simp_all [hiByte, show 8 + (i - 8) = i by omega]

/-- A byte is its two nibbles. -/
theorem hiNibble_append_loNibble (v : Byte) : hiNibble v ++ loNibble v = v := by
  revert v; decide

/-- A property of all 16 by 16 nibble pairs holds of every byte. -/
theorem byte_by_nibbles {P : Byte → Prop} (h : ∀ hi lo : BitVec 4, P (hi ++ lo)) (v : Byte) : P v := by
  have := h (hiNibble v) (loNibble v)
  rwa [hiNibble_append_loNibble] at this

/-- The sixteen nibbles. -/
theorem nibble_cases (n : BitVec 4) :
    n = 0 ∨ n = 1 ∨ n = 2 ∨ n = 3 ∨ n = 4 ∨ n = 5 ∨ n = 6 ∨ n = 7 ∨ n = 8 ∨ n = 9 ∨ n = 10 ∨ n = 11 ∨ n = 12
      ∨ n = 13 ∨ n = 14 ∨ n = 15 := by
  revert n; decide

/-- The eight three-bit fields. -/
theorem field3_cases (n : BitVec 3) :
    n = 0 ∨ n = 1 ∨ n = 2 ∨ n = 3 ∨ n = 4 ∨ n = 5 ∨ n = 6 ∨ n = 7 := by
  revert n; decide

/-- Masking with `0xF0` clears the low nibble. -/
@[simp] theorem mask_low_clear (v : Byte) : v &&& 240#8 &&& 15#8 = 0#8 := by
  rw [BitVec.and_assoc]; simp

/-- `zext_16` and `sext_16` as 00_scope.md R8 writes them. -/
theorem sext16_eq (v : Byte) : sext16 v = if v.toNat < 0x80 then zext16 v else zext16 v + 0xFF00 := by
  revert v; decide

end Sys2Proof
end

