-- ==== Sys2Proof/Laws/State.lean ====
section
/-! SUPPORT. What each update of the state does to each field and each accessor, so that no later proof unfolds a
record update. -/

namespace Sys2Proof.Machine

/-! ## One lemma per field per update -/

@[simp] theorem State.busWrite_a (s : State) (a : Word) (v : Byte) : (s.busWrite a v).a = s.a := rfl
@[simp] theorem State.busWrite_f (s : State) (a : Word) (v : Byte) : (s.busWrite a v).f = s.f := rfl
@[simp] theorem State.busWrite_b (s : State) (a : Word) (v : Byte) : (s.busWrite a v).b = s.b := rfl
@[simp] theorem State.busWrite_c (s : State) (a : Word) (v : Byte) : (s.busWrite a v).c = s.c := rfl
@[simp] theorem State.busWrite_d (s : State) (a : Word) (v : Byte) : (s.busWrite a v).d = s.d := rfl
@[simp] theorem State.busWrite_e (s : State) (a : Word) (v : Byte) : (s.busWrite a v).e = s.e := rfl
@[simp] theorem State.busWrite_h (s : State) (a : Word) (v : Byte) : (s.busWrite a v).h = s.h := rfl
@[simp] theorem State.busWrite_l (s : State) (a : Word) (v : Byte) : (s.busWrite a v).l = s.l := rfl
@[simp] theorem State.busWrite_sp (s : State) (a : Word) (v : Byte) : (s.busWrite a v).sp = s.sp := rfl
@[simp] theorem State.busWrite_pc (s : State) (a : Word) (v : Byte) : (s.busWrite a v).pc = s.pc := rfl
@[simp] theorem State.busWrite_mem (s : State) (a : Word) (v : Byte) : (s.busWrite a v).mem = s.mem.writeCell a.toNat v := rfl
@[simp] theorem State.busWrite_run (s : State) (a : Word) (v : Byte) : (s.busWrite a v).run = s.run := rfl
@[simp] theorem State.busWrite_err (s : State) (a : Word) (v : Byte) : (s.busWrite a v).err = s.err := rfl
@[simp] theorem State.busWrite_lastResult (s : State) (a : Word) (v : Byte) : (s.busWrite a v).lastResult = s.lastResult := rfl

@[simp] theorem State.busWrite16_a (s : State) (a v : Word) : (s.busWrite16 a v).a = s.a := rfl
@[simp] theorem State.busWrite16_f (s : State) (a v : Word) : (s.busWrite16 a v).f = s.f := rfl
@[simp] theorem State.busWrite16_b (s : State) (a v : Word) : (s.busWrite16 a v).b = s.b := rfl
@[simp] theorem State.busWrite16_c (s : State) (a v : Word) : (s.busWrite16 a v).c = s.c := rfl
@[simp] theorem State.busWrite16_d (s : State) (a v : Word) : (s.busWrite16 a v).d = s.d := rfl
@[simp] theorem State.busWrite16_e (s : State) (a v : Word) : (s.busWrite16 a v).e = s.e := rfl
@[simp] theorem State.busWrite16_h (s : State) (a v : Word) : (s.busWrite16 a v).h = s.h := rfl
@[simp] theorem State.busWrite16_l (s : State) (a v : Word) : (s.busWrite16 a v).l = s.l := rfl
@[simp] theorem State.busWrite16_sp (s : State) (a v : Word) : (s.busWrite16 a v).sp = s.sp := rfl
@[simp] theorem State.busWrite16_pc (s : State) (a v : Word) : (s.busWrite16 a v).pc = s.pc := rfl
@[simp] theorem State.busWrite16_run (s : State) (a v : Word) : (s.busWrite16 a v).run = s.run := rfl
@[simp] theorem State.busWrite16_err (s : State) (a v : Word) : (s.busWrite16 a v).err = s.err := rfl
@[simp] theorem State.busWrite16_lastResult (s : State) (a v : Word) : (s.busWrite16 a v).lastResult = s.lastResult := rfl

@[simp] theorem State.commit_a (s : State) (n : Word) (k : Nat) : (s.commit n k).a = s.a := rfl
@[simp] theorem State.commit_f (s : State) (n : Word) (k : Nat) : (s.commit n k).f = s.f := rfl
@[simp] theorem State.commit_b (s : State) (n : Word) (k : Nat) : (s.commit n k).b = s.b := rfl
@[simp] theorem State.commit_c (s : State) (n : Word) (k : Nat) : (s.commit n k).c = s.c := rfl
@[simp] theorem State.commit_d (s : State) (n : Word) (k : Nat) : (s.commit n k).d = s.d := rfl
@[simp] theorem State.commit_e (s : State) (n : Word) (k : Nat) : (s.commit n k).e = s.e := rfl
@[simp] theorem State.commit_h (s : State) (n : Word) (k : Nat) : (s.commit n k).h = s.h := rfl
@[simp] theorem State.commit_l (s : State) (n : Word) (k : Nat) : (s.commit n k).l = s.l := rfl
@[simp] theorem State.commit_sp (s : State) (n : Word) (k : Nat) : (s.commit n k).sp = s.sp := rfl
@[simp] theorem State.commit_pc (s : State) (n : Word) (k : Nat) : (s.commit n k).pc = n := rfl
@[simp] theorem State.commit_mem (s : State) (n : Word) (k : Nat) : (s.commit n k).mem = s.mem := rfl
@[simp] theorem State.commit_run (s : State) (n : Word) (k : Nat) : (s.commit n k).run = s.run := rfl
@[simp] theorem State.commit_err (s : State) (n : Word) (k : Nat) : (s.commit n k).err = s.err := rfl
@[simp] theorem State.commit_lastResult (s : State) (n : Word) (k : Nat) : (s.commit n k).lastResult = .ok ⟨k, false⟩ := rfl

@[simp] theorem State.takeStop_a (s : State) (r : RunState) (x : ErrRecord) (w : StepResult) : (s.takeStop r x w).a = s.a := rfl
@[simp] theorem State.takeStop_f (s : State) (r : RunState) (x : ErrRecord) (w : StepResult) : (s.takeStop r x w).f = s.f := rfl
@[simp] theorem State.takeStop_b (s : State) (r : RunState) (x : ErrRecord) (w : StepResult) : (s.takeStop r x w).b = s.b := rfl
@[simp] theorem State.takeStop_c (s : State) (r : RunState) (x : ErrRecord) (w : StepResult) : (s.takeStop r x w).c = s.c := rfl
@[simp] theorem State.takeStop_d (s : State) (r : RunState) (x : ErrRecord) (w : StepResult) : (s.takeStop r x w).d = s.d := rfl
@[simp] theorem State.takeStop_e (s : State) (r : RunState) (x : ErrRecord) (w : StepResult) : (s.takeStop r x w).e = s.e := rfl
@[simp] theorem State.takeStop_h (s : State) (r : RunState) (x : ErrRecord) (w : StepResult) : (s.takeStop r x w).h = s.h := rfl
@[simp] theorem State.takeStop_l (s : State) (r : RunState) (x : ErrRecord) (w : StepResult) : (s.takeStop r x w).l = s.l := rfl
@[simp] theorem State.takeStop_sp (s : State) (r : RunState) (x : ErrRecord) (w : StepResult) : (s.takeStop r x w).sp = s.sp := rfl
@[simp] theorem State.takeStop_pc (s : State) (r : RunState) (x : ErrRecord) (w : StepResult) : (s.takeStop r x w).pc = s.pc := rfl
@[simp] theorem State.takeStop_mem (s : State) (r : RunState) (x : ErrRecord) (w : StepResult) : (s.takeStop r x w).mem = s.mem := rfl
@[simp] theorem State.takeStop_run (s : State) (r : RunState) (x : ErrRecord) (w : StepResult) : (s.takeStop r x w).run = r := rfl
@[simp] theorem State.takeStop_err (s : State) (r : RunState) (x : ErrRecord) (w : StepResult) : (s.takeStop r x w).err = x := rfl
@[simp] theorem State.takeStop_lastResult (s : State) (r : RunState) (x : ErrRecord) (w : StepResult) : (s.takeStop r x w).lastResult = w := rfl

@[simp] theorem State.write8_A_a (s : State) (v : Byte) : (s.write8 .A v).a = v := rfl
@[simp] theorem State.write8_A_f (s : State) (v : Byte) : (s.write8 .A v).f = s.f := rfl
@[simp] theorem State.write8_A_b (s : State) (v : Byte) : (s.write8 .A v).b = s.b := rfl
@[simp] theorem State.write8_A_c (s : State) (v : Byte) : (s.write8 .A v).c = s.c := rfl
@[simp] theorem State.write8_A_d (s : State) (v : Byte) : (s.write8 .A v).d = s.d := rfl
@[simp] theorem State.write8_A_e (s : State) (v : Byte) : (s.write8 .A v).e = s.e := rfl
@[simp] theorem State.write8_A_h (s : State) (v : Byte) : (s.write8 .A v).h = s.h := rfl
@[simp] theorem State.write8_A_l (s : State) (v : Byte) : (s.write8 .A v).l = s.l := rfl
@[simp] theorem State.write8_A_sp (s : State) (v : Byte) : (s.write8 .A v).sp = s.sp := rfl
@[simp] theorem State.write8_A_pc (s : State) (v : Byte) : (s.write8 .A v).pc = s.pc := rfl
@[simp] theorem State.write8_A_mem (s : State) (v : Byte) : (s.write8 .A v).mem = s.mem := rfl
@[simp] theorem State.write8_A_run (s : State) (v : Byte) : (s.write8 .A v).run = s.run := rfl
@[simp] theorem State.write8_A_err (s : State) (v : Byte) : (s.write8 .A v).err = s.err := rfl
@[simp] theorem State.write8_A_lastResult (s : State) (v : Byte) : (s.write8 .A v).lastResult = s.lastResult := rfl

@[simp] theorem State.write8_F_a (s : State) (v : Byte) : (s.write8 .F v).a = s.a := rfl
@[simp] theorem State.write8_F_f (s : State) (v : Byte) : (s.write8 .F v).f = v &&& 0xF0 := rfl
@[simp] theorem State.write8_F_b (s : State) (v : Byte) : (s.write8 .F v).b = s.b := rfl
@[simp] theorem State.write8_F_c (s : State) (v : Byte) : (s.write8 .F v).c = s.c := rfl
@[simp] theorem State.write8_F_d (s : State) (v : Byte) : (s.write8 .F v).d = s.d := rfl
@[simp] theorem State.write8_F_e (s : State) (v : Byte) : (s.write8 .F v).e = s.e := rfl
@[simp] theorem State.write8_F_h (s : State) (v : Byte) : (s.write8 .F v).h = s.h := rfl
@[simp] theorem State.write8_F_l (s : State) (v : Byte) : (s.write8 .F v).l = s.l := rfl
@[simp] theorem State.write8_F_sp (s : State) (v : Byte) : (s.write8 .F v).sp = s.sp := rfl
@[simp] theorem State.write8_F_pc (s : State) (v : Byte) : (s.write8 .F v).pc = s.pc := rfl
@[simp] theorem State.write8_F_mem (s : State) (v : Byte) : (s.write8 .F v).mem = s.mem := rfl
@[simp] theorem State.write8_F_run (s : State) (v : Byte) : (s.write8 .F v).run = s.run := rfl
@[simp] theorem State.write8_F_err (s : State) (v : Byte) : (s.write8 .F v).err = s.err := rfl
@[simp] theorem State.write8_F_lastResult (s : State) (v : Byte) : (s.write8 .F v).lastResult = s.lastResult := rfl

@[simp] theorem State.write8_B_a (s : State) (v : Byte) : (s.write8 .B v).a = s.a := rfl
@[simp] theorem State.write8_B_f (s : State) (v : Byte) : (s.write8 .B v).f = s.f := rfl
@[simp] theorem State.write8_B_b (s : State) (v : Byte) : (s.write8 .B v).b = v := rfl
@[simp] theorem State.write8_B_c (s : State) (v : Byte) : (s.write8 .B v).c = s.c := rfl
@[simp] theorem State.write8_B_d (s : State) (v : Byte) : (s.write8 .B v).d = s.d := rfl
@[simp] theorem State.write8_B_e (s : State) (v : Byte) : (s.write8 .B v).e = s.e := rfl
@[simp] theorem State.write8_B_h (s : State) (v : Byte) : (s.write8 .B v).h = s.h := rfl
@[simp] theorem State.write8_B_l (s : State) (v : Byte) : (s.write8 .B v).l = s.l := rfl
@[simp] theorem State.write8_B_sp (s : State) (v : Byte) : (s.write8 .B v).sp = s.sp := rfl
@[simp] theorem State.write8_B_pc (s : State) (v : Byte) : (s.write8 .B v).pc = s.pc := rfl
@[simp] theorem State.write8_B_mem (s : State) (v : Byte) : (s.write8 .B v).mem = s.mem := rfl
@[simp] theorem State.write8_B_run (s : State) (v : Byte) : (s.write8 .B v).run = s.run := rfl
@[simp] theorem State.write8_B_err (s : State) (v : Byte) : (s.write8 .B v).err = s.err := rfl
@[simp] theorem State.write8_B_lastResult (s : State) (v : Byte) : (s.write8 .B v).lastResult = s.lastResult := rfl

@[simp] theorem State.write8_C_a (s : State) (v : Byte) : (s.write8 .C v).a = s.a := rfl
@[simp] theorem State.write8_C_f (s : State) (v : Byte) : (s.write8 .C v).f = s.f := rfl
@[simp] theorem State.write8_C_b (s : State) (v : Byte) : (s.write8 .C v).b = s.b := rfl
@[simp] theorem State.write8_C_c (s : State) (v : Byte) : (s.write8 .C v).c = v := rfl
@[simp] theorem State.write8_C_d (s : State) (v : Byte) : (s.write8 .C v).d = s.d := rfl
@[simp] theorem State.write8_C_e (s : State) (v : Byte) : (s.write8 .C v).e = s.e := rfl
@[simp] theorem State.write8_C_h (s : State) (v : Byte) : (s.write8 .C v).h = s.h := rfl
@[simp] theorem State.write8_C_l (s : State) (v : Byte) : (s.write8 .C v).l = s.l := rfl
@[simp] theorem State.write8_C_sp (s : State) (v : Byte) : (s.write8 .C v).sp = s.sp := rfl
@[simp] theorem State.write8_C_pc (s : State) (v : Byte) : (s.write8 .C v).pc = s.pc := rfl
@[simp] theorem State.write8_C_mem (s : State) (v : Byte) : (s.write8 .C v).mem = s.mem := rfl
@[simp] theorem State.write8_C_run (s : State) (v : Byte) : (s.write8 .C v).run = s.run := rfl
@[simp] theorem State.write8_C_err (s : State) (v : Byte) : (s.write8 .C v).err = s.err := rfl
@[simp] theorem State.write8_C_lastResult (s : State) (v : Byte) : (s.write8 .C v).lastResult = s.lastResult := rfl

@[simp] theorem State.write8_D_a (s : State) (v : Byte) : (s.write8 .D v).a = s.a := rfl
@[simp] theorem State.write8_D_f (s : State) (v : Byte) : (s.write8 .D v).f = s.f := rfl
@[simp] theorem State.write8_D_b (s : State) (v : Byte) : (s.write8 .D v).b = s.b := rfl
@[simp] theorem State.write8_D_c (s : State) (v : Byte) : (s.write8 .D v).c = s.c := rfl
@[simp] theorem State.write8_D_d (s : State) (v : Byte) : (s.write8 .D v).d = v := rfl
@[simp] theorem State.write8_D_e (s : State) (v : Byte) : (s.write8 .D v).e = s.e := rfl
@[simp] theorem State.write8_D_h (s : State) (v : Byte) : (s.write8 .D v).h = s.h := rfl
@[simp] theorem State.write8_D_l (s : State) (v : Byte) : (s.write8 .D v).l = s.l := rfl
@[simp] theorem State.write8_D_sp (s : State) (v : Byte) : (s.write8 .D v).sp = s.sp := rfl
@[simp] theorem State.write8_D_pc (s : State) (v : Byte) : (s.write8 .D v).pc = s.pc := rfl
@[simp] theorem State.write8_D_mem (s : State) (v : Byte) : (s.write8 .D v).mem = s.mem := rfl
@[simp] theorem State.write8_D_run (s : State) (v : Byte) : (s.write8 .D v).run = s.run := rfl
@[simp] theorem State.write8_D_err (s : State) (v : Byte) : (s.write8 .D v).err = s.err := rfl
@[simp] theorem State.write8_D_lastResult (s : State) (v : Byte) : (s.write8 .D v).lastResult = s.lastResult := rfl

@[simp] theorem State.write8_E_a (s : State) (v : Byte) : (s.write8 .E v).a = s.a := rfl
@[simp] theorem State.write8_E_f (s : State) (v : Byte) : (s.write8 .E v).f = s.f := rfl
@[simp] theorem State.write8_E_b (s : State) (v : Byte) : (s.write8 .E v).b = s.b := rfl
@[simp] theorem State.write8_E_c (s : State) (v : Byte) : (s.write8 .E v).c = s.c := rfl
@[simp] theorem State.write8_E_d (s : State) (v : Byte) : (s.write8 .E v).d = s.d := rfl
@[simp] theorem State.write8_E_e (s : State) (v : Byte) : (s.write8 .E v).e = v := rfl
@[simp] theorem State.write8_E_h (s : State) (v : Byte) : (s.write8 .E v).h = s.h := rfl
@[simp] theorem State.write8_E_l (s : State) (v : Byte) : (s.write8 .E v).l = s.l := rfl
@[simp] theorem State.write8_E_sp (s : State) (v : Byte) : (s.write8 .E v).sp = s.sp := rfl
@[simp] theorem State.write8_E_pc (s : State) (v : Byte) : (s.write8 .E v).pc = s.pc := rfl
@[simp] theorem State.write8_E_mem (s : State) (v : Byte) : (s.write8 .E v).mem = s.mem := rfl
@[simp] theorem State.write8_E_run (s : State) (v : Byte) : (s.write8 .E v).run = s.run := rfl
@[simp] theorem State.write8_E_err (s : State) (v : Byte) : (s.write8 .E v).err = s.err := rfl
@[simp] theorem State.write8_E_lastResult (s : State) (v : Byte) : (s.write8 .E v).lastResult = s.lastResult := rfl

@[simp] theorem State.write8_H_a (s : State) (v : Byte) : (s.write8 .H v).a = s.a := rfl
@[simp] theorem State.write8_H_f (s : State) (v : Byte) : (s.write8 .H v).f = s.f := rfl
@[simp] theorem State.write8_H_b (s : State) (v : Byte) : (s.write8 .H v).b = s.b := rfl
@[simp] theorem State.write8_H_c (s : State) (v : Byte) : (s.write8 .H v).c = s.c := rfl
@[simp] theorem State.write8_H_d (s : State) (v : Byte) : (s.write8 .H v).d = s.d := rfl
@[simp] theorem State.write8_H_e (s : State) (v : Byte) : (s.write8 .H v).e = s.e := rfl
@[simp] theorem State.write8_H_h (s : State) (v : Byte) : (s.write8 .H v).h = v := rfl
@[simp] theorem State.write8_H_l (s : State) (v : Byte) : (s.write8 .H v).l = s.l := rfl
@[simp] theorem State.write8_H_sp (s : State) (v : Byte) : (s.write8 .H v).sp = s.sp := rfl
@[simp] theorem State.write8_H_pc (s : State) (v : Byte) : (s.write8 .H v).pc = s.pc := rfl
@[simp] theorem State.write8_H_mem (s : State) (v : Byte) : (s.write8 .H v).mem = s.mem := rfl
@[simp] theorem State.write8_H_run (s : State) (v : Byte) : (s.write8 .H v).run = s.run := rfl
@[simp] theorem State.write8_H_err (s : State) (v : Byte) : (s.write8 .H v).err = s.err := rfl
@[simp] theorem State.write8_H_lastResult (s : State) (v : Byte) : (s.write8 .H v).lastResult = s.lastResult := rfl

@[simp] theorem State.write8_L_a (s : State) (v : Byte) : (s.write8 .L v).a = s.a := rfl
@[simp] theorem State.write8_L_f (s : State) (v : Byte) : (s.write8 .L v).f = s.f := rfl
@[simp] theorem State.write8_L_b (s : State) (v : Byte) : (s.write8 .L v).b = s.b := rfl
@[simp] theorem State.write8_L_c (s : State) (v : Byte) : (s.write8 .L v).c = s.c := rfl
@[simp] theorem State.write8_L_d (s : State) (v : Byte) : (s.write8 .L v).d = s.d := rfl
@[simp] theorem State.write8_L_e (s : State) (v : Byte) : (s.write8 .L v).e = s.e := rfl
@[simp] theorem State.write8_L_h (s : State) (v : Byte) : (s.write8 .L v).h = s.h := rfl
@[simp] theorem State.write8_L_l (s : State) (v : Byte) : (s.write8 .L v).l = v := rfl
@[simp] theorem State.write8_L_sp (s : State) (v : Byte) : (s.write8 .L v).sp = s.sp := rfl
@[simp] theorem State.write8_L_pc (s : State) (v : Byte) : (s.write8 .L v).pc = s.pc := rfl
@[simp] theorem State.write8_L_mem (s : State) (v : Byte) : (s.write8 .L v).mem = s.mem := rfl
@[simp] theorem State.write8_L_run (s : State) (v : Byte) : (s.write8 .L v).run = s.run := rfl
@[simp] theorem State.write8_L_err (s : State) (v : Byte) : (s.write8 .L v).err = s.err := rfl
@[simp] theorem State.write8_L_lastResult (s : State) (v : Byte) : (s.write8 .L v).lastResult = s.lastResult := rfl

@[simp] theorem State.write8_sp (s : State) (r : Reg8) (v : Byte) : (s.write8 r v).sp = s.sp := by
  cases r <;> rfl
@[simp] theorem State.write8_pc (s : State) (r : Reg8) (v : Byte) : (s.write8 r v).pc = s.pc := by
  cases r <;> rfl
@[simp] theorem State.write8_mem (s : State) (r : Reg8) (v : Byte) : (s.write8 r v).mem = s.mem := by
  cases r <;> rfl
@[simp] theorem State.write8_run (s : State) (r : Reg8) (v : Byte) : (s.write8 r v).run = s.run := by
  cases r <;> rfl
@[simp] theorem State.write8_err (s : State) (r : Reg8) (v : Byte) : (s.write8 r v).err = s.err := by
  cases r <;> rfl
@[simp] theorem State.write8_lastResult (s : State) (r : Reg8) (v : Byte) : (s.write8 r v).lastResult = s.lastResult := by
  cases r <;> rfl

@[simp] theorem State.write16_mem (s : State) (p : Reg16) (v : Word) : (s.write16 p v).mem = s.mem := by
  cases p <;> rfl
@[simp] theorem State.write16_run (s : State) (p : Reg16) (v : Word) : (s.write16 p v).run = s.run := by
  cases p <;> rfl
@[simp] theorem State.write16_err (s : State) (p : Reg16) (v : Word) : (s.write16 p v).err = s.err := by
  cases p <;> rfl
@[simp] theorem State.write16_lastResult (s : State) (p : Reg16) (v : Word) : (s.write16 p v).lastResult = s.lastResult := by
  cases p <;> rfl

@[simp] theorem State.write16_SP_a (s : State) (v : Word) : (s.write16 .SP v).a = s.a := rfl
@[simp] theorem State.write16_SP_f (s : State) (v : Word) : (s.write16 .SP v).f = s.f := rfl
@[simp] theorem State.write16_SP_b (s : State) (v : Word) : (s.write16 .SP v).b = s.b := rfl
@[simp] theorem State.write16_SP_c (s : State) (v : Word) : (s.write16 .SP v).c = s.c := rfl
@[simp] theorem State.write16_SP_d (s : State) (v : Word) : (s.write16 .SP v).d = s.d := rfl
@[simp] theorem State.write16_SP_e (s : State) (v : Word) : (s.write16 .SP v).e = s.e := rfl
@[simp] theorem State.write16_SP_h (s : State) (v : Word) : (s.write16 .SP v).h = s.h := rfl
@[simp] theorem State.write16_SP_l (s : State) (v : Word) : (s.write16 .SP v).l = s.l := rfl
@[simp] theorem State.write16_SP_sp (s : State) (v : Word) : (s.write16 .SP v).sp = v := rfl
@[simp] theorem State.write16_SP_pc (s : State) (v : Word) : (s.write16 .SP v).pc = s.pc := rfl
@[simp] theorem State.write16_SP_mem (s : State) (v : Word) : (s.write16 .SP v).mem = s.mem := rfl
@[simp] theorem State.write16_SP_run (s : State) (v : Word) : (s.write16 .SP v).run = s.run := rfl
@[simp] theorem State.write16_SP_err (s : State) (v : Word) : (s.write16 .SP v).err = s.err := rfl
@[simp] theorem State.write16_SP_lastResult (s : State) (v : Word) : (s.write16 .SP v).lastResult = s.lastResult := rfl

@[simp] theorem State.write16_PC_a (s : State) (v : Word) : (s.write16 .PC v).a = s.a := rfl
@[simp] theorem State.write16_PC_f (s : State) (v : Word) : (s.write16 .PC v).f = s.f := rfl
@[simp] theorem State.write16_PC_b (s : State) (v : Word) : (s.write16 .PC v).b = s.b := rfl
@[simp] theorem State.write16_PC_c (s : State) (v : Word) : (s.write16 .PC v).c = s.c := rfl
@[simp] theorem State.write16_PC_d (s : State) (v : Word) : (s.write16 .PC v).d = s.d := rfl
@[simp] theorem State.write16_PC_e (s : State) (v : Word) : (s.write16 .PC v).e = s.e := rfl
@[simp] theorem State.write16_PC_h (s : State) (v : Word) : (s.write16 .PC v).h = s.h := rfl
@[simp] theorem State.write16_PC_l (s : State) (v : Word) : (s.write16 .PC v).l = s.l := rfl
@[simp] theorem State.write16_PC_sp (s : State) (v : Word) : (s.write16 .PC v).sp = s.sp := rfl
@[simp] theorem State.write16_PC_pc (s : State) (v : Word) : (s.write16 .PC v).pc = v := rfl
@[simp] theorem State.write16_PC_mem (s : State) (v : Word) : (s.write16 .PC v).mem = s.mem := rfl
@[simp] theorem State.write16_PC_run (s : State) (v : Word) : (s.write16 .PC v).run = s.run := rfl
@[simp] theorem State.write16_PC_err (s : State) (v : Word) : (s.write16 .PC v).err = s.err := rfl
@[simp] theorem State.write16_PC_lastResult (s : State) (v : Word) : (s.write16 .PC v).lastResult = s.lastResult := rfl

@[simp] theorem State.write16_BC_a (s : State) (v : Word) : (s.write16 .BC v).a = s.a := rfl
@[simp] theorem State.write16_BC_f (s : State) (v : Word) : (s.write16 .BC v).f = s.f := rfl
@[simp] theorem State.write16_BC_b (s : State) (v : Word) : (s.write16 .BC v).b = hiByte v := rfl
@[simp] theorem State.write16_BC_c (s : State) (v : Word) : (s.write16 .BC v).c = loByte v := rfl
@[simp] theorem State.write16_BC_d (s : State) (v : Word) : (s.write16 .BC v).d = s.d := rfl
@[simp] theorem State.write16_BC_e (s : State) (v : Word) : (s.write16 .BC v).e = s.e := rfl
@[simp] theorem State.write16_BC_h (s : State) (v : Word) : (s.write16 .BC v).h = s.h := rfl
@[simp] theorem State.write16_BC_l (s : State) (v : Word) : (s.write16 .BC v).l = s.l := rfl
@[simp] theorem State.write16_BC_sp (s : State) (v : Word) : (s.write16 .BC v).sp = s.sp := rfl
@[simp] theorem State.write16_BC_pc (s : State) (v : Word) : (s.write16 .BC v).pc = s.pc := rfl
@[simp] theorem State.write16_BC_mem (s : State) (v : Word) : (s.write16 .BC v).mem = s.mem := rfl
@[simp] theorem State.write16_BC_run (s : State) (v : Word) : (s.write16 .BC v).run = s.run := rfl
@[simp] theorem State.write16_BC_err (s : State) (v : Word) : (s.write16 .BC v).err = s.err := rfl
@[simp] theorem State.write16_BC_lastResult (s : State) (v : Word) : (s.write16 .BC v).lastResult = s.lastResult := rfl

@[simp] theorem State.write16_DE_a (s : State) (v : Word) : (s.write16 .DE v).a = s.a := rfl
@[simp] theorem State.write16_DE_f (s : State) (v : Word) : (s.write16 .DE v).f = s.f := rfl
@[simp] theorem State.write16_DE_b (s : State) (v : Word) : (s.write16 .DE v).b = s.b := rfl
@[simp] theorem State.write16_DE_c (s : State) (v : Word) : (s.write16 .DE v).c = s.c := rfl
@[simp] theorem State.write16_DE_d (s : State) (v : Word) : (s.write16 .DE v).d = hiByte v := rfl
@[simp] theorem State.write16_DE_e (s : State) (v : Word) : (s.write16 .DE v).e = loByte v := rfl
@[simp] theorem State.write16_DE_h (s : State) (v : Word) : (s.write16 .DE v).h = s.h := rfl
@[simp] theorem State.write16_DE_l (s : State) (v : Word) : (s.write16 .DE v).l = s.l := rfl
@[simp] theorem State.write16_DE_sp (s : State) (v : Word) : (s.write16 .DE v).sp = s.sp := rfl
@[simp] theorem State.write16_DE_pc (s : State) (v : Word) : (s.write16 .DE v).pc = s.pc := rfl
@[simp] theorem State.write16_DE_mem (s : State) (v : Word) : (s.write16 .DE v).mem = s.mem := rfl
@[simp] theorem State.write16_DE_run (s : State) (v : Word) : (s.write16 .DE v).run = s.run := rfl
@[simp] theorem State.write16_DE_err (s : State) (v : Word) : (s.write16 .DE v).err = s.err := rfl
@[simp] theorem State.write16_DE_lastResult (s : State) (v : Word) : (s.write16 .DE v).lastResult = s.lastResult := rfl

@[simp] theorem State.write16_HL_a (s : State) (v : Word) : (s.write16 .HL v).a = s.a := rfl
@[simp] theorem State.write16_HL_f (s : State) (v : Word) : (s.write16 .HL v).f = s.f := rfl
@[simp] theorem State.write16_HL_b (s : State) (v : Word) : (s.write16 .HL v).b = s.b := rfl
@[simp] theorem State.write16_HL_c (s : State) (v : Word) : (s.write16 .HL v).c = s.c := rfl
@[simp] theorem State.write16_HL_d (s : State) (v : Word) : (s.write16 .HL v).d = s.d := rfl
@[simp] theorem State.write16_HL_e (s : State) (v : Word) : (s.write16 .HL v).e = s.e := rfl
@[simp] theorem State.write16_HL_h (s : State) (v : Word) : (s.write16 .HL v).h = hiByte v := rfl
@[simp] theorem State.write16_HL_l (s : State) (v : Word) : (s.write16 .HL v).l = loByte v := rfl
@[simp] theorem State.write16_HL_sp (s : State) (v : Word) : (s.write16 .HL v).sp = s.sp := rfl
@[simp] theorem State.write16_HL_pc (s : State) (v : Word) : (s.write16 .HL v).pc = s.pc := rfl
@[simp] theorem State.write16_HL_mem (s : State) (v : Word) : (s.write16 .HL v).mem = s.mem := rfl
@[simp] theorem State.write16_HL_run (s : State) (v : Word) : (s.write16 .HL v).run = s.run := rfl
@[simp] theorem State.write16_HL_err (s : State) (v : Word) : (s.write16 .HL v).err = s.err := rfl
@[simp] theorem State.write16_HL_lastResult (s : State) (v : Word) : (s.write16 .HL v).lastResult = s.lastResult := rfl

@[simp] theorem State.write16_AF_a (s : State) (v : Word) : (s.write16 .AF v).a = hiByte v := rfl
@[simp] theorem State.write16_AF_f (s : State) (v : Word) : (s.write16 .AF v).f = loByte v &&& 0xF0 := rfl
@[simp] theorem State.write16_AF_b (s : State) (v : Word) : (s.write16 .AF v).b = s.b := rfl
@[simp] theorem State.write16_AF_c (s : State) (v : Word) : (s.write16 .AF v).c = s.c := rfl
@[simp] theorem State.write16_AF_d (s : State) (v : Word) : (s.write16 .AF v).d = s.d := rfl
@[simp] theorem State.write16_AF_e (s : State) (v : Word) : (s.write16 .AF v).e = s.e := rfl
@[simp] theorem State.write16_AF_h (s : State) (v : Word) : (s.write16 .AF v).h = s.h := rfl
@[simp] theorem State.write16_AF_l (s : State) (v : Word) : (s.write16 .AF v).l = s.l := rfl
@[simp] theorem State.write16_AF_sp (s : State) (v : Word) : (s.write16 .AF v).sp = s.sp := rfl
@[simp] theorem State.write16_AF_pc (s : State) (v : Word) : (s.write16 .AF v).pc = s.pc := rfl
@[simp] theorem State.write16_AF_mem (s : State) (v : Word) : (s.write16 .AF v).mem = s.mem := rfl
@[simp] theorem State.write16_AF_run (s : State) (v : Word) : (s.write16 .AF v).run = s.run := rfl
@[simp] theorem State.write16_AF_err (s : State) (v : Word) : (s.write16 .AF v).err = s.err := rfl
@[simp] theorem State.write16_AF_lastResult (s : State) (v : Word) : (s.write16 .AF v).lastResult = s.lastResult := rfl

@[simp] theorem State.setFlag_a (s : State) (fl : Flag) (x : Bool) : (s.setFlag fl x).a = s.a := rfl
@[simp] theorem State.setFlag_b (s : State) (fl : Flag) (x : Bool) : (s.setFlag fl x).b = s.b := rfl
@[simp] theorem State.setFlag_c (s : State) (fl : Flag) (x : Bool) : (s.setFlag fl x).c = s.c := rfl
@[simp] theorem State.setFlag_d (s : State) (fl : Flag) (x : Bool) : (s.setFlag fl x).d = s.d := rfl
@[simp] theorem State.setFlag_e (s : State) (fl : Flag) (x : Bool) : (s.setFlag fl x).e = s.e := rfl
@[simp] theorem State.setFlag_h (s : State) (fl : Flag) (x : Bool) : (s.setFlag fl x).h = s.h := rfl
@[simp] theorem State.setFlag_l (s : State) (fl : Flag) (x : Bool) : (s.setFlag fl x).l = s.l := rfl
@[simp] theorem State.setFlag_sp (s : State) (fl : Flag) (x : Bool) : (s.setFlag fl x).sp = s.sp := rfl
@[simp] theorem State.setFlag_pc (s : State) (fl : Flag) (x : Bool) : (s.setFlag fl x).pc = s.pc := rfl
@[simp] theorem State.setFlag_mem (s : State) (fl : Flag) (x : Bool) : (s.setFlag fl x).mem = s.mem := rfl
@[simp] theorem State.setFlag_run (s : State) (fl : Flag) (x : Bool) : (s.setFlag fl x).run = s.run := rfl
@[simp] theorem State.setFlag_err (s : State) (fl : Flag) (x : Bool) : (s.setFlag fl x).err = s.err := rfl
@[simp] theorem State.setFlag_lastResult (s : State) (fl : Flag) (x : Bool) : (s.setFlag fl x).lastResult = s.lastResult := rfl

@[simp] theorem State.flagsSPe8_a (s : State) (sp : Word) (e8 : Byte) : (s.flagsSPe8 sp e8).a = s.a := rfl
@[simp] theorem State.flagsSPe8_b (s : State) (sp : Word) (e8 : Byte) : (s.flagsSPe8 sp e8).b = s.b := rfl
@[simp] theorem State.flagsSPe8_c (s : State) (sp : Word) (e8 : Byte) : (s.flagsSPe8 sp e8).c = s.c := rfl
@[simp] theorem State.flagsSPe8_d (s : State) (sp : Word) (e8 : Byte) : (s.flagsSPe8 sp e8).d = s.d := rfl
@[simp] theorem State.flagsSPe8_e (s : State) (sp : Word) (e8 : Byte) : (s.flagsSPe8 sp e8).e = s.e := rfl
@[simp] theorem State.flagsSPe8_h (s : State) (sp : Word) (e8 : Byte) : (s.flagsSPe8 sp e8).h = s.h := rfl
@[simp] theorem State.flagsSPe8_l (s : State) (sp : Word) (e8 : Byte) : (s.flagsSPe8 sp e8).l = s.l := rfl
@[simp] theorem State.flagsSPe8_sp (s : State) (sp : Word) (e8 : Byte) : (s.flagsSPe8 sp e8).sp = s.sp := rfl
@[simp] theorem State.flagsSPe8_pc (s : State) (sp : Word) (e8 : Byte) : (s.flagsSPe8 sp e8).pc = s.pc := rfl
@[simp] theorem State.flagsSPe8_mem (s : State) (sp : Word) (e8 : Byte) : (s.flagsSPe8 sp e8).mem = s.mem := rfl
@[simp] theorem State.flagsSPe8_run (s : State) (sp : Word) (e8 : Byte) : (s.flagsSPe8 sp e8).run = s.run := rfl
@[simp] theorem State.flagsSPe8_err (s : State) (sp : Word) (e8 : Byte) : (s.flagsSPe8 sp e8).err = s.err := rfl
@[simp] theorem State.flagsSPe8_lastResult (s : State) (sp : Word) (e8 : Byte) : (s.flagsSPe8 sp e8).lastResult = s.lastResult := rfl

@[simp] theorem State.adjustHL_a (s : State) (adj : Adjust) : (s.adjustHL adj).a = s.a := by
  cases adj <;> rfl
@[simp] theorem State.adjustHL_f (s : State) (adj : Adjust) : (s.adjustHL adj).f = s.f := by
  cases adj <;> rfl
@[simp] theorem State.adjustHL_b (s : State) (adj : Adjust) : (s.adjustHL adj).b = s.b := by
  cases adj <;> rfl
@[simp] theorem State.adjustHL_c (s : State) (adj : Adjust) : (s.adjustHL adj).c = s.c := by
  cases adj <;> rfl
@[simp] theorem State.adjustHL_d (s : State) (adj : Adjust) : (s.adjustHL adj).d = s.d := by
  cases adj <;> rfl
@[simp] theorem State.adjustHL_e (s : State) (adj : Adjust) : (s.adjustHL adj).e = s.e := by
  cases adj <;> rfl
@[simp] theorem State.adjustHL_sp (s : State) (adj : Adjust) : (s.adjustHL adj).sp = s.sp := by
  cases adj <;> rfl
@[simp] theorem State.adjustHL_pc (s : State) (adj : Adjust) : (s.adjustHL adj).pc = s.pc := by
  cases adj <;> rfl
@[simp] theorem State.adjustHL_mem (s : State) (adj : Adjust) : (s.adjustHL adj).mem = s.mem := by
  cases adj <;> rfl
@[simp] theorem State.adjustHL_run (s : State) (adj : Adjust) : (s.adjustHL adj).run = s.run := by
  cases adj <;> rfl
@[simp] theorem State.adjustHL_err (s : State) (adj : Adjust) : (s.adjustHL adj).err = s.err := by
  cases adj <;> rfl
@[simp] theorem State.adjustHL_lastResult (s : State) (adj : Adjust) : (s.adjustHL adj).lastResult = s.lastResult := by
  cases adj <;> rfl

@[simp] theorem State.push16_a (s : State) (v : Word) : (s.push16 v).a = s.a := rfl
@[simp] theorem State.push16_f (s : State) (v : Word) : (s.push16 v).f = s.f := rfl
@[simp] theorem State.push16_b (s : State) (v : Word) : (s.push16 v).b = s.b := rfl
@[simp] theorem State.push16_c (s : State) (v : Word) : (s.push16 v).c = s.c := rfl
@[simp] theorem State.push16_d (s : State) (v : Word) : (s.push16 v).d = s.d := rfl
@[simp] theorem State.push16_e (s : State) (v : Word) : (s.push16 v).e = s.e := rfl
@[simp] theorem State.push16_h (s : State) (v : Word) : (s.push16 v).h = s.h := rfl
@[simp] theorem State.push16_l (s : State) (v : Word) : (s.push16 v).l = s.l := rfl
@[simp] theorem State.push16_pc (s : State) (v : Word) : (s.push16 v).pc = s.pc := rfl
@[simp] theorem State.push16_run (s : State) (v : Word) : (s.push16 v).run = s.run := rfl
@[simp] theorem State.push16_err (s : State) (v : Word) : (s.push16 v).err = s.err := rfl
@[simp] theorem State.push16_lastResult (s : State) (v : Word) : (s.push16 v).lastResult = s.lastResult := rfl
@[simp] theorem State.push16_sp (s : State) (v : Word) : (s.push16 v).sp = s.sp - 2 := rfl

/-! ## Registers -/

/-- Reading a register after a write of one. -/
theorem State.read8_write8 (s : State) (r r' : Reg8) (v : Byte) :
    (s.write8 r v).read8 r' = if r' = r then (if r = .F then v &&& 0xF0 else v) else s.read8 r' := by
  cases r <;> cases r' <;> simp [State.read8, State.write8, BitVec.and_assoc]

/-- A register read sees the eight register fields only. -/
theorem State.read8_congr {s t : State} (ha : t.a = s.a) (hf : t.f = s.f) (hb : t.b = s.b) (hc : t.c = s.c)
    (hd : t.d = s.d) (he : t.e = s.e) (hh : t.h = s.h) (hl : t.l = s.l) (r : Reg8) : t.read8 r = s.read8 r := by
  cases r <;> simp [State.read8, *]

/-- A bus read sees the memory only. -/
theorem State.busRead_congr {s t : State} (h : t.mem = s.mem) (a : Word) : t.busRead a = s.busRead a := by
  simp [State.busRead, h]

@[simp] theorem State.read8_busWrite (s : State) (a : Word) (v : Byte) (r : Reg8) :
    (s.busWrite a v).read8 r = s.read8 r := rfl

@[simp] theorem State.read8_busWrite16 (s : State) (a v : Word) (r : Reg8) :
    (s.busWrite16 a v).read8 r = s.read8 r := rfl

@[simp] theorem State.read8_commit (s : State) (n : Word) (k : Nat) (r : Reg8) :
    (s.commit n k).read8 r = s.read8 r := rfl

@[simp] theorem State.read8_takeStop (s : State) (x : RunState) (y : ErrRecord) (z : StepResult) (r : Reg8) :
    (s.takeStop x y z).read8 r = s.read8 r := rfl

@[simp] theorem State.read8_push16 (s : State) (v : Word) (r : Reg8) : (s.push16 v).read8 r = s.read8 r := rfl

@[simp] theorem State.read16_commit (s : State) (n : Word) (k : Nat) : (s.commit n k).read16 .HL = s.read16 .HL := rfl

@[simp] theorem State.busRead_write8 (s : State) (r : Reg8) (v : Byte) (a : Word) :
    (s.write8 r v).busRead a = s.busRead a := by simp [State.busRead]

@[simp] theorem State.busRead_write16 (s : State) (p : Reg16) (v : Word) (a : Word) :
    (s.write16 p v).busRead a = s.busRead a := by simp [State.busRead]

@[simp] theorem State.busRead_commit (s : State) (n : Word) (k : Nat) (a : Word) :
    (s.commit n k).busRead a = s.busRead a := rfl

@[simp] theorem State.busRead_takeStop (s : State) (x : RunState) (y : ErrRecord) (z : StepResult) (a : Word) :
    (s.takeStop x y z).busRead a = s.busRead a := rfl

@[simp] theorem State.busRead_adjustHL (s : State) (adj : Adjust) (a : Word) :
    (s.adjustHL adj).busRead a = s.busRead a := by simp [State.busRead]

/-- `HL` after the adjust: one up, one down, or as before (40_step_decode_resolve.md R79). -/
theorem State.read16_HL_adjustHL (s : State) (adj : Adjust) :
    (s.adjustHL adj).read16 .HL = match adj with
      | .none => s.read16 .HL
      | .inc => s.read16 .HL + 1
      | .dec => s.read16 .HL - 1 := by
  cases adj <;> simp [State.adjustHL, State.read16, State.write16, State.read8_write8]

/-! ## F -/

/-- A write of any register keeps bits 3 to 0 of the stored `F` zero (10_state.md R16). -/
theorem State.write8_lowF {s : State} (h : s.f &&& 0x0F = 0) (r : Reg8) (v : Byte) :
    (s.write8 r v).f &&& 0x0F = 0 := by
  cases r <;> simp_all

theorem State.write16_lowF {s : State} (h : s.f &&& 0x0F = 0) (p : Reg16) (v : Word) :
    (s.write16 p v).f &&& 0x0F = 0 := by
  cases p <;> simp_all

theorem State.flagsSPe8_lowF (s : State) (sp : Word) (e8 : Byte) : (s.flagsSPe8 sp e8).f &&& 0x0F = 0 :=
  mask_low_clear _

/-- What `F` reads as after the flags of `LD HL,SP+e8`: four bits (42_ld16.md R114). -/
theorem State.flagsSPe8_f (s : State) (sp : Word) (e8 : Byte) :
    (s.flagsSPe8 sp e8).f = ((BitVec.ofBool (lowNibbleCarry (loByte sp) e8)).setWidth 8 <<< 5)
      ||| ((BitVec.ofBool (lowByteCarry (loByte sp) e8)).setWidth 8 <<< 4) := by
  unfold State.flagsSPe8
  generalize lowNibbleCarry (loByte sp) e8 = x
  generalize lowByteCarry (loByte sp) e8 = y
  simp only [State.setFlag, State.write8, State.read8, keptBits, flagBit]
  generalize s.f = f
  revert f x y; decide

/-- Which flag reads as what after a write of a flag (10_state.md R15). -/
theorem State.getFlag_congr {s t : State} (h : t.read8 .F = s.read8 .F) (fl : Flag) : t.getFlag fl = s.getFlag fl := by
  simp [State.getFlag, h]

/-- The conditions read the flags only. -/
theorem State.cond_congr {s t : State} (h : t.read8 .F = s.read8 .F) (cc : Cond) : t.cond cc = s.cond cc := by
  cases cc <;> simp [State.cond, State.getFlag_congr h]

end Sys2Proof.Machine
end

