-- ==== Sys2Proof/Laws/Memory.lean ====
section
/-! SUPPORT. The memory list: what a read sees after a write, that every operation keeps the canonical form, and that
canonical memories with the same bytes are the same list (10_state.md R22, 20_memory.md R31 to R34). -/

namespace Sys2Proof.Machine

namespace Memory

@[simp] theorem readCell_nil (a : Nat) : readCell [] a = Config.unlistedByte := rfl

theorem wfFrom_mono {lo lo' : Nat} (h : lo' ≤ lo) {m : Memory} (hm : wfFrom lo m = true) : wfFrom lo' m = true := by
  cases m with
  | nil => rfl
  | cons c rest =>
    simp only [wfFrom, Bool.and_eq_true, decide_eq_true_eq] at hm ⊢
    exact ⟨⟨⟨by omega, hm.1.1.2⟩, hm.1.2⟩, hm.2⟩

/-- Below the first listed address nothing is listed. -/
theorem readCell_below {lo : Nat} {m : Memory} (hm : wfFrom lo m = true) {a : Nat} (h : a < lo) :
    readCell m a = Config.unlistedByte := by
  induction m generalizing lo with
  | nil => rfl
  | cons c rest ih =>
    simp only [wfFrom, Bool.and_eq_true, decide_eq_true_eq] at hm
    have hne : a ≠ c.1 := by omega
    simp only [readCell, if_neg hne]
    exact ih hm.2 (by omega)

/-- Nothing is listed beyond the address space. -/
theorem readCell_beyond {lo : Nat} {m : Memory} (hm : wfFrom lo m = true) {a : Nat} (h : 65536 ≤ a) :
    readCell m a = Config.unlistedByte := by
  induction m generalizing lo with
  | nil => rfl
  | cons c rest ih =>
    simp only [wfFrom, Bool.and_eq_true, decide_eq_true_eq] at hm
    have hne : a ≠ c.1 := by omega
    simp only [readCell, if_neg hne]
    exact ih hm.2

theorem readCell_writeCell_from {lo : Nat} {m : Memory} (hm : wfFrom lo m = true) (a x : Nat) (v : Byte) :
    readCell (writeCell m a v) x = if x = a then v else readCell m x := by
  induction m generalizing lo with
  | nil => by_cases hv : v = Config.unlistedByte <;> by_cases hx : x = a <;> simp [writeCell, readCell, hv, hx]
  | cons c rest ih =>
    obtain ⟨k, w⟩ := c
    simp only [wfFrom, Bool.and_eq_true, decide_eq_true_eq] at hm
    have hbelow : ∀ y, y < k + 1 → readCell rest y = Config.unlistedByte := fun y hy => readCell_below hm.2 hy
    simp only [writeCell]
    by_cases h1 : a < k
    · rw [if_pos h1]
      by_cases hv : v = Config.unlistedByte
      · rw [if_pos hv]
        by_cases hx : x = a
        · subst hx
          rw [if_pos rfl, readCell, if_neg (by omega), hv]
          exact hbelow x (by omega)
        · rw [if_neg hx]
      · rw [if_neg hv, readCell]
    · rw [if_neg h1]
      by_cases h2 : a = k
      · subst h2
        rw [if_pos rfl]
        by_cases hv : v = Config.unlistedByte
        · rw [if_pos hv]
          by_cases hx : x = a
          · subst hx
            rw [if_pos rfl, hv]
            exact hbelow x (by omega)
          · rw [if_neg hx, readCell, if_neg hx]
        · rw [if_neg hv, readCell]
          by_cases hx : x = a
          · simp [hx]
          · simp [hx, readCell]
      · rw [if_neg h2, readCell, ih hm.2, readCell]
        by_cases hk : x = k
        · simp [hk, Ne.symm h2]
        · simp [hk]

theorem wfFrom_writeCell {lo : Nat} {m : Memory} (hm : wfFrom lo m = true) {a : Nat} (hlo : lo ≤ a)
    (ha : a < 65536) (v : Byte) : wfFrom lo (writeCell m a v) = true := by
  induction m generalizing lo with
  | nil =>
    by_cases hv : v = Config.unlistedByte
    · simp [writeCell, hv, wfFrom]
    · simp [writeCell, hv, wfFrom, hlo, ha]
  | cons c rest ih =>
    obtain ⟨k, w⟩ := c
    have hm' := hm
    simp only [wfFrom, Bool.and_eq_true, decide_eq_true_eq] at hm
    simp only [writeCell]
    split
    · split
      · exact hm'
      · rename_i h1 hv
        simp only [wfFrom, Bool.and_eq_true, decide_eq_true_eq]
        exact ⟨⟨⟨hlo, ha⟩, hv⟩, ⟨⟨by omega, hm.1.1.2⟩, hm.1.2⟩, hm.2⟩
    · split
      · split
        · exact wfFrom_mono (by omega) hm.2
        · rename_i h1 h2 hv
          simp only [wfFrom, Bool.and_eq_true, decide_eq_true_eq]
          exact ⟨⟨⟨hlo, ha⟩, hv⟩, h2 ▸ hm.2⟩
      · simp only [wfFrom, Bool.and_eq_true, decide_eq_true_eq]
        exact ⟨hm.1, ih hm.2 (by omega)⟩

/-- Reading after writing one cell: that cell holds the value, the others what they held. -/
theorem readCell_writeCell {m : Memory} (hm : m.wf = true) (a x : Nat) (v : Byte) :
    readCell (writeCell m a v) x = if x = a then v else readCell m x :=
  readCell_writeCell_from hm a x v

/-- A write keeps the canonical form. -/
theorem wf_writeCell {m : Memory} (hm : m.wf = true) {a : Nat} (ha : a < 65536) (v : Byte) :
    (m.writeCell a v).wf = true :=
  wfFrom_writeCell hm (Nat.zero_le a) ha v

/-- Canonical memories that hold the same bytes are the same list. -/
theorem ext_of_readCell {lo : Nat} {m m' : Memory} (hm : wfFrom lo m = true) (hm' : wfFrom lo m' = true)
    (h : ∀ a, readCell m a = readCell m' a) : m = m' := by
  induction m generalizing lo m' with
  | nil =>
    cases m' with
    | nil => rfl
    | cons c rest =>
      simp only [wfFrom, Bool.and_eq_true, decide_eq_true_eq] at hm'
      have := h c.1
      simp [readCell] at this
      exact absurd this.symm hm'.1.2
  | cons c rest ih =>
    obtain ⟨k, w⟩ := c
    cases m' with
    | nil =>
      simp only [wfFrom, Bool.and_eq_true, decide_eq_true_eq] at hm
      have := h k
      simp [readCell] at this
      exact absurd this hm.1.2
    | cons c' rest' =>
      obtain ⟨k', w'⟩ := c'
      have hmm := hm
      have hmm' := hm'
      simp only [wfFrom, Bool.and_eq_true, decide_eq_true_eq] at hm hm'
      have hk : k = k' := by
        rcases Nat.lt_trichotomy k k' with hlt | heq | hgt
        · have := h k
          rw [readCell, if_pos rfl, readCell, if_neg (by omega), readCell_below hm'.2 (by omega)] at this
          exact absurd this hm.1.2
        · exact heq
        · have := h k'
          rw [readCell, if_neg (by omega), readCell_below hm.2 (by omega), readCell, if_pos rfl] at this
          exact absurd this.symm hm'.1.2
      subst hk
      have hw : w = w' := by simpa [readCell] using h k
      subst hw
      congr 1
      refine ih hm.2 hm'.2 fun a => ?_
      by_cases ha : a = k
      · subst ha
        rw [readCell_below hm.2 (by omega), readCell_below hm'.2 (by omega)]
      · simpa [readCell, ha] using h a

/-- Storing a list of bytes keeps the canonical form. -/
theorem wf_storeFrom {m : Memory} (hm : m.wf = true) (addr : Word) (bytes : List Byte) :
    (m.storeFrom addr bytes).wf = true := by
  induction bytes generalizing m addr with
  | nil => exact hm
  | cons v rest ih => exact ih (wf_writeCell hm addr.isLt v) (addr + 1)

end Memory

/-- MEM_INIT gives a canonical memory. -/
theorem wf_initMemory (cells : List (Word × Byte)) : (initMemory cells).wf = true := by
  suffices h : ∀ m : Memory, m.wf = true → (cells.foldl (fun m c => m.writeCell c.1.toNat c.2) m).wf = true from
    h [] rfl
  induction cells with
  | nil => exact fun _ hm => hm
  | cons c rest ih => exact fun m hm => ih _ (Memory.wf_writeCell hm c.1.isLt c.2)

/-! ## On states -/

/-- Reading the bus after writing it. -/
theorem State.busRead_busWrite {s : State} (hm : s.mem.wf = true) (a x : Word) (v : Byte) :
    (s.busWrite a v).busRead x = if x = a then v else s.busRead x := by
  simp only [State.busRead, State.busWrite_mem, Memory.readCell_writeCell hm, BitVec.toNat_inj]

/-- A bus write keeps the canonical form. -/
theorem State.wf_busWrite {s : State} (hm : s.mem.wf = true) (a : Word) (v : Byte) : (s.busWrite a v).mem.wf = true :=
  Memory.wf_writeCell hm a.isLt v

/-- The two bytes of a 16-bit access are at different addresses (20_memory.md R34). -/
theorem succ_ne_self (a : Word) : a + 1 ≠ a := by
  intro h
  have := congrArg BitVec.toNat h
  simp at this
  omega

/-- Reading the bus after a 16-bit write: the two cells, low byte at the lower address, and the others. -/
theorem State.busRead_busWrite16 {s : State} (hm : s.mem.wf = true) (a v x : Word) :
    (s.busWrite16 a v).busRead x =
      if x = a + 1 then hiByte v else if x = a then loByte v else s.busRead x := by
  rw [State.busWrite16, State.busRead_busWrite (State.wf_busWrite hm a _), State.busRead_busWrite hm]

theorem State.wf_busWrite16 {s : State} (hm : s.mem.wf = true) (a v : Word) : (s.busWrite16 a v).mem.wf = true :=
  State.wf_busWrite (State.wf_busWrite hm a _) (a + 1) _

/-- A push writes the two cells at the new `SP`. -/
theorem State.busRead_push16 {s : State} (hm : s.mem.wf = true) (v x : Word) :
    (s.push16 v).busRead x =
      if x = s.sp - 2 + 1 then hiByte v else if x = s.sp - 2 then loByte v else s.busRead x :=
  State.busRead_busWrite16 (s := s.write16 .SP (s.sp - 2)) hm (s.sp - 2) v x

theorem State.wf_push16 {s : State} (hm : s.mem.wf = true) (v : Word) : (s.push16 v).mem.wf = true :=
  State.wf_busWrite16 (s := s.write16 .SP (s.sp - 2)) hm (s.sp - 2) v

end Sys2Proof.Machine
end

