-- ==== Sys2Proof/Laws/Ops.lean ====
section
/-! SUPPORT. What each shared operation answers, and the small facts about frames a proof over an instruction cites
instead of unfolding it. -/

namespace Sys2Proof.Machine

/-! ## Answers -/

/-- Two `next` answers are equal exactly when their states are. -/
theorem Answer.next_inj {s t : State} : (Host.Outcome.next s : Answer) = .next t ↔ s = t :=
  ⟨fun h => by injection h, fun h => h ▸ rfl⟩

/-- A completed instruction answers the committed state and nothing else. -/
theorem complete_eq_next {s t : State} {n : Word} {k : Nat} : complete s n k = .next t ↔ t = s.commit n k :=
  Answer.next_inj.trans eq_comm

theorem ldRR_eq (d src : Reg8) (s : State) :
    ldRR d src s = .next ((s.write8 d (s.read8 src)).commit (s.pc + 1) 4) := rfl

theorem ldRmHL_eq (d : Reg8) (s : State) :
    ldRmHL d s = .next ((s.write8 d (s.busRead (s.read16 .HL))).commit (s.pc + 1) 8) := rfl

theorem ldmHLR_eq (src : Reg8) (s : State) :
    ldmHLR src s = .next ((s.busWrite (s.read16 .HL) (s.read8 src)).commit (s.pc + 1) 8) := rfl

theorem ldRn8_eq (d : Reg8) (n8 : Byte) (s : State) :
    ldRn8 d n8 s = .next ((s.write8 d n8).commit (s.pc + 2) 8) := rfl

theorem ldmHLn8_eq (n8 : Byte) (s : State) :
    ldmHLn8 n8 s = .next ((s.busWrite (s.read16 .HL) n8).commit (s.pc + 2) 12) := rfl

theorem ldmPairA_eq (p : Reg16) (adj : Adjust) (s : State) :
    ldmPairA p adj s = .next (((s.busWrite (s.read16 p) s.a).adjustHL adj).commit (s.pc + 1) 8) := rfl

theorem ldAmPair_eq (p : Reg16) (adj : Adjust) (s : State) :
    ldAmPair p adj s = .next (((s.write8 .A (s.busRead (s.read16 p))).adjustHL adj).commit (s.pc + 1) 8) := rfl

theorem ldma16A_eq (a16 : Word) (s : State) :
    ldma16A a16 s = .next ((s.busWrite a16 s.a).commit (s.pc + 3) 16) := rfl

theorem ldAma16_eq (a16 : Word) (s : State) :
    ldAma16 a16 s = .next ((s.write8 .A (s.busRead a16)).commit (s.pc + 3) 16) := rfl

theorem ldR16n16_eq (d : Reg16) (n16 : Word) (s : State) :
    ldR16n16 d n16 s = .next ((s.write16 d n16).commit (s.pc + 3) 12) := rfl

theorem ldma16SP_eq (a16 : Word) (s : State) :
    ldma16SP a16 s = .next ((s.busWrite16 a16 s.sp).commit (s.pc + 3) 20) := rfl

theorem ldSPHL_eq (s : State) : ldSPHL s = .next ((s.write16 .SP (s.read16 .HL)).commit (s.pc + 1) 8) := rfl

theorem ldHLSPe8_eq (e8 : Byte) (s : State) :
    ldHLSPe8 e8 s = .next (((s.write16 .HL (s.sp + sext16 e8)).flagsSPe8 s.sp e8).commit (s.pc + 2) 12) := rfl

theorem ldhStore_eq (offset : Byte) (len cycles : Nat) (s : State) :
    ldhStore offset len cycles s = .next ((s.busWrite (highPage offset) s.a).commit (s.fallThrough len) cycles) := rfl

theorem ldhLoad_eq (offset : Byte) (len cycles : Nat) (s : State) :
    ldhLoad offset len cycles s =
      .next ((s.write8 .A (s.busRead (highPage offset))).commit (s.fallThrough len) cycles) := rfl

theorem jpA16_eq (a16 : Word) (s : State) : jpA16 a16 s = .next (s.commit a16 16) := rfl

theorem jpCC_eq (cc : Cond) (a16 : Word) (s : State) :
    jpCC cc a16 s = .next (if s.cond cc then s.commit a16 16 else s.commit (s.pc + 3) 12) := by
  unfold jpCC; split <;> rfl

theorem jpHL_eq (s : State) : jpHL s = .next (s.commit (s.read16 .HL) 4) := rfl

theorem jrE8_eq (e8 : Byte) (s : State) : jrE8 e8 s = .next (s.commit (s.pc + 2 + sext16 e8) 12) := rfl

theorem jrCC_eq (cc : Cond) (e8 : Byte) (s : State) :
    jrCC cc e8 s = .next (if s.cond cc then s.commit (s.pc + 2 + sext16 e8) 12 else s.commit (s.pc + 2) 8) := by
  unfold jrCC; split <;> rfl

theorem callA16_eq (a16 : Word) (s : State) :
    callA16 a16 s = .next ((s.push16 (s.pc + 3)).commit a16 24) := rfl

theorem callCC_eq (cc : Cond) (a16 : Word) (s : State) :
    callCC cc a16 s = .next (if s.cond cc then (s.push16 (s.pc + 3)).commit a16 24 else s.commit (s.pc + 3) 12) := by
  unfold callCC; split <;> rfl

theorem rstVec_eq (vec : Word) (s : State) : rstVec vec s = .next ((s.push16 (s.pc + 1)).commit vec 16) := rfl

theorem pushPair_eq (p : Reg16) (s : State) :
    pushPair p s = .next ((s.push16 (s.read16 p)).commit (s.pc + 1) 16) := rfl

theorem unimplemented_eq (opcode : Byte) (s : State) :
    unimplemented opcode s = .next (s.takeStop .faulted (.unimplementedMnemonic s.pc false opcode)
      (.err (.unimplementedMnemonic s.pc false opcode))) := rfl

theorem unimplementedCB_eq (x : BitVec 2) (y : BitVec 3) (r : Operand8) (s : State) :
    unimplementedCB x y r s = .next (s.takeStop .faulted (.unimplementedMnemonic s.pc true (byteXYZ x y r.code))
      (.err (.unimplementedMnemonic s.pc true (byteXYZ x y r.code)))) := rfl

/-! ## Completion and stops -/

/-- An instruction whose meaning commits the state `u` its effects left, which kept `RUN` and `ERR`, completes. -/
theorem Completes.of_commit {i : Instr} {s u : State} {n : Word} {k : Nat} (h : exec i s = .next (u.commit n k))
    (hr : u.run = s.run) (he : u.err = s.err) : Completes i s (u.commit n k) n k :=
  ⟨h, rfl, rfl, hr, he⟩

/-- An instruction whose meaning takes a stop differs from `s` in `RUN`, `ERR` and the result only. -/
theorem StopsWith.of_takeStop {i : Instr} {s : State} {r : RunState} {x : ErrRecord} {w : StepResult}
    (h : exec i s = .next (s.takeStop r x w)) : StopsWith i s (s.takeStop r x w) r x w :=
  ⟨h, rfl, rfl, rfl, rfl, rfl, ⟨fun _ _ => rfl, fun _ _ => rfl⟩⟩

/-! ## Frames -/

/-- A commit changes no register a frame speaks of and no cell. -/
theorem SameBut.commit {regs : List Reg8} {cells : List Word} {s u : State} (h : SameBut regs cells s u) (n : Word)
    (k : Nat) : SameBut regs cells s (u.commit n k) :=
  ⟨h.keepsRegs, h.keepsCells⟩

theorem SameBut.refl (regs : List Reg8) (cells : List Word) (s : State) : SameBut regs cells s s :=
  ⟨fun _ _ => rfl, fun _ _ => rfl⟩

/-- A register write changes that register only. -/
theorem SameBut.write8 (s : State) (r : Reg8) (v : Byte) : SameBut [r] [] s (s.write8 r v) where
  keepsRegs r' h := by
    rw [State.read8_write8, if_neg (by simpa using h)]
  keepsCells a _ := by simp

/-- A byte store changes that cell only. -/
theorem SameBut.busWrite {s : State} (hm : s.mem.wf = true) (a : Word) (v : Byte) :
    SameBut [] [a] s (s.busWrite a v) where
  keepsRegs _ _ := by simp
  keepsCells x h := by
    rw [State.busRead_busWrite hm, if_neg (by simpa using h)]

/-- A 16-bit store changes its two cells only. -/
theorem SameBut.busWrite16 {s : State} (hm : s.mem.wf = true) (a v : Word) :
    SameBut [] [a, a + 1] s (s.busWrite16 a v) where
  keepsRegs _ _ := by simp
  keepsCells x h := by
    have h' : x ≠ a ∧ x ≠ a + 1 := by simpa using h
    rw [State.busRead_busWrite16 hm, if_neg h'.2, if_neg h'.1]

/-- A push changes the two cells at the new `SP` only. -/
theorem SameBut.push16 {s : State} (hm : s.mem.wf = true) (v : Word) :
    SameBut [] [s.sp - 2, s.sp - 2 + 1] s (s.push16 v) where
  keepsRegs _ _ := by simp
  keepsCells x h := by
    have h' : x ≠ s.sp - 2 ∧ x ≠ s.sp - 2 + 1 := by simpa using h
    rw [State.busRead_push16 hm, if_neg h'.2, if_neg h'.1]

/-! ## The step -/

/-- A running step executes the instruction at `PC`. -/
theorem step_running {s : State} (h : s.run = .running) : step s = exec s.fetchInstr s := by
  unfold step; rw [h]

/-- A halted step repeats the halt. -/
theorem step_halted {s : State} (h : s.run = .halted) : step s = .next s.repeatHalt := by
  unfold step; rw [h]

/-- A faulted step repeats the error. -/
theorem step_faulted {s : State} (h : s.run = .faulted) : step s = .next s.repeatError := by
  unfold step; rw [h]

/-! ## Operand shapes -/

/-- The operands `RST` takes are `Vec(v)`, for every `v`. -/
theorem isVec_iff (o : OperandSpec) : isVec o = true ↔ ∃ v, o = .vec v := by
  obtain ⟨kind, deref, adjust⟩ := o
  cases kind <;> simp [isVec, OperandSpec.vec]

end Sys2Proof.Machine
end

