-- ==== Sys2Proof/Laws/PerInstr.lean ====
section
/-! SUPPORT. A fact about every instruction as syntax, one lemma per constructor: its bytes are as many as its catalog
entry says, one to three (30_encoding.md R50, R51, R68). -/

namespace Sys2Proof.Laws

/-- The encoded length is the catalog's length, 1 to 3 (R50). -/
def EncodedLength.Statement (i : Instr) : Prop :=
  (encode i).length = i.spec.length ∧ 1 ≤ (encode i).length ∧ (encode i).length ≤ 3

open EncodedLength (Statement)

/-- Every prefixed entry has length 2 (R63). -/
theorem length_cbPrefixed (opcode : Byte) : (Catalog.cbPrefixed opcode).length = 2 := by
  unfold Catalog.cbPrefixed
  split <;> rfl

/-- A prefixed instruction has two bytes and its entry says so. -/
theorem encodedLength_of_prefixed {i : Instr} {opcode : Byte} (h : encode i = [0xCB, opcode])
    (hk : i.spec = Catalog.cbPrefixed opcode) : Statement i := by
  unfold Statement
  rw [h, hk, length_cbPrefixed]
  simp

/-- An unprefixed instruction: its first byte's entry counts the first byte and the bytes after it. -/
theorem encodedLength_of_first_byte {i : Instr} (b0 : Byte) {rest : List Byte} (h : encode i = b0 :: rest)
    (hb : b0 ≠ 0xCB ∨ rest = []) (hl : (Catalog.unprefixed b0).length = rest.length + 1) (h3 : rest.length ≤ 2) :
    Statement i := by
  have hs : i.spec = Catalog.unprefixed b0 := by
    unfold Instr.spec Instr.key
    rw [h]
    rcases hb with hb | rfl
    · cases rest with
      | nil => rfl
      | cons b1 _ => simp only [if_neg hb]; rfl
    · rfl
  unfold Statement
  rw [h, hs, hl]
  exact ⟨rfl, Nat.le_add_left 1 _, Nat.succ_le_succ h3⟩

theorem EncodedLength.nop : Statement .nop := encodedLength_of_first_byte 0x00 rfl (.inr rfl) rfl (Nat.le_of_ble_eq_true rfl)
theorem EncodedLength.ld_BC_n16 (n16 : Word) : Statement (.ld_BC_n16 n16) := encodedLength_of_first_byte 0x01 rfl (.inl (by decide)) rfl (Nat.le_of_ble_eq_true rfl)
theorem EncodedLength.ld_mBC_A : Statement .ld_mBC_A := encodedLength_of_first_byte 0x02 rfl (.inr rfl) rfl (Nat.le_of_ble_eq_true rfl)
theorem EncodedLength.ld_B_n8 (n8 : Byte) : Statement (.ld_B_n8 n8) := encodedLength_of_first_byte 0x06 rfl (.inl (by decide)) rfl (Nat.le_of_ble_eq_true rfl)
theorem EncodedLength.ld_ma16_SP (a16 : Word) : Statement (.ld_ma16_SP a16) := encodedLength_of_first_byte 0x08 rfl (.inl (by decide)) rfl (Nat.le_of_ble_eq_true rfl)
theorem EncodedLength.ld_A_mBC : Statement .ld_A_mBC := encodedLength_of_first_byte 0x0A rfl (.inr rfl) rfl (Nat.le_of_ble_eq_true rfl)
theorem EncodedLength.ld_C_n8 (n8 : Byte) : Statement (.ld_C_n8 n8) := encodedLength_of_first_byte 0x0E rfl (.inl (by decide)) rfl (Nat.le_of_ble_eq_true rfl)
theorem EncodedLength.ld_DE_n16 (n16 : Word) : Statement (.ld_DE_n16 n16) := encodedLength_of_first_byte 0x11 rfl (.inl (by decide)) rfl (Nat.le_of_ble_eq_true rfl)
theorem EncodedLength.ld_mDE_A : Statement .ld_mDE_A := encodedLength_of_first_byte 0x12 rfl (.inr rfl) rfl (Nat.le_of_ble_eq_true rfl)
theorem EncodedLength.ld_D_n8 (n8 : Byte) : Statement (.ld_D_n8 n8) := encodedLength_of_first_byte 0x16 rfl (.inl (by decide)) rfl (Nat.le_of_ble_eq_true rfl)
theorem EncodedLength.jr_e8 (e8 : Byte) : Statement (.jr_e8 e8) := encodedLength_of_first_byte 0x18 rfl (.inl (by decide)) rfl (Nat.le_of_ble_eq_true rfl)
theorem EncodedLength.ld_A_mDE : Statement .ld_A_mDE := encodedLength_of_first_byte 0x1A rfl (.inr rfl) rfl (Nat.le_of_ble_eq_true rfl)
theorem EncodedLength.ld_E_n8 (n8 : Byte) : Statement (.ld_E_n8 n8) := encodedLength_of_first_byte 0x1E rfl (.inl (by decide)) rfl (Nat.le_of_ble_eq_true rfl)
theorem EncodedLength.jr_NZ_e8 (e8 : Byte) : Statement (.jr_NZ_e8 e8) := encodedLength_of_first_byte 0x20 rfl (.inl (by decide)) rfl (Nat.le_of_ble_eq_true rfl)
theorem EncodedLength.ld_HL_n16 (n16 : Word) : Statement (.ld_HL_n16 n16) := encodedLength_of_first_byte 0x21 rfl (.inl (by decide)) rfl (Nat.le_of_ble_eq_true rfl)
theorem EncodedLength.ld_mHLi_A : Statement .ld_mHLi_A := encodedLength_of_first_byte 0x22 rfl (.inr rfl) rfl (Nat.le_of_ble_eq_true rfl)
theorem EncodedLength.ld_H_n8 (n8 : Byte) : Statement (.ld_H_n8 n8) := encodedLength_of_first_byte 0x26 rfl (.inl (by decide)) rfl (Nat.le_of_ble_eq_true rfl)
theorem EncodedLength.jr_Z_e8 (e8 : Byte) : Statement (.jr_Z_e8 e8) := encodedLength_of_first_byte 0x28 rfl (.inl (by decide)) rfl (Nat.le_of_ble_eq_true rfl)
theorem EncodedLength.ld_A_mHLi : Statement .ld_A_mHLi := encodedLength_of_first_byte 0x2A rfl (.inr rfl) rfl (Nat.le_of_ble_eq_true rfl)
theorem EncodedLength.ld_L_n8 (n8 : Byte) : Statement (.ld_L_n8 n8) := encodedLength_of_first_byte 0x2E rfl (.inl (by decide)) rfl (Nat.le_of_ble_eq_true rfl)
theorem EncodedLength.jr_NC_e8 (e8 : Byte) : Statement (.jr_NC_e8 e8) := encodedLength_of_first_byte 0x30 rfl (.inl (by decide)) rfl (Nat.le_of_ble_eq_true rfl)
theorem EncodedLength.ld_SP_n16 (n16 : Word) : Statement (.ld_SP_n16 n16) := encodedLength_of_first_byte 0x31 rfl (.inl (by decide)) rfl (Nat.le_of_ble_eq_true rfl)
theorem EncodedLength.ld_mHLd_A : Statement .ld_mHLd_A := encodedLength_of_first_byte 0x32 rfl (.inr rfl) rfl (Nat.le_of_ble_eq_true rfl)
theorem EncodedLength.ld_mHL_n8 (n8 : Byte) : Statement (.ld_mHL_n8 n8) := encodedLength_of_first_byte 0x36 rfl (.inl (by decide)) rfl (Nat.le_of_ble_eq_true rfl)
theorem EncodedLength.jr_C_e8 (e8 : Byte) : Statement (.jr_C_e8 e8) := encodedLength_of_first_byte 0x38 rfl (.inl (by decide)) rfl (Nat.le_of_ble_eq_true rfl)
theorem EncodedLength.ld_A_mHLd : Statement .ld_A_mHLd := encodedLength_of_first_byte 0x3A rfl (.inr rfl) rfl (Nat.le_of_ble_eq_true rfl)
theorem EncodedLength.ld_A_n8 (n8 : Byte) : Statement (.ld_A_n8 n8) := encodedLength_of_first_byte 0x3E rfl (.inl (by decide)) rfl (Nat.le_of_ble_eq_true rfl)
theorem EncodedLength.ld_B_B : Statement .ld_B_B := encodedLength_of_first_byte 0x40 rfl (.inr rfl) rfl (Nat.le_of_ble_eq_true rfl)
theorem EncodedLength.ld_B_C : Statement .ld_B_C := encodedLength_of_first_byte 0x41 rfl (.inr rfl) rfl (Nat.le_of_ble_eq_true rfl)
theorem EncodedLength.ld_B_D : Statement .ld_B_D := encodedLength_of_first_byte 0x42 rfl (.inr rfl) rfl (Nat.le_of_ble_eq_true rfl)
theorem EncodedLength.ld_B_E : Statement .ld_B_E := encodedLength_of_first_byte 0x43 rfl (.inr rfl) rfl (Nat.le_of_ble_eq_true rfl)
theorem EncodedLength.ld_B_H : Statement .ld_B_H := encodedLength_of_first_byte 0x44 rfl (.inr rfl) rfl (Nat.le_of_ble_eq_true rfl)
theorem EncodedLength.ld_B_L : Statement .ld_B_L := encodedLength_of_first_byte 0x45 rfl (.inr rfl) rfl (Nat.le_of_ble_eq_true rfl)
theorem EncodedLength.ld_B_mHL : Statement .ld_B_mHL := encodedLength_of_first_byte 0x46 rfl (.inr rfl) rfl (Nat.le_of_ble_eq_true rfl)
theorem EncodedLength.ld_B_A : Statement .ld_B_A := encodedLength_of_first_byte 0x47 rfl (.inr rfl) rfl (Nat.le_of_ble_eq_true rfl)
theorem EncodedLength.ld_C_B : Statement .ld_C_B := encodedLength_of_first_byte 0x48 rfl (.inr rfl) rfl (Nat.le_of_ble_eq_true rfl)
theorem EncodedLength.ld_C_C : Statement .ld_C_C := encodedLength_of_first_byte 0x49 rfl (.inr rfl) rfl (Nat.le_of_ble_eq_true rfl)
theorem EncodedLength.ld_C_D : Statement .ld_C_D := encodedLength_of_first_byte 0x4A rfl (.inr rfl) rfl (Nat.le_of_ble_eq_true rfl)
theorem EncodedLength.ld_C_E : Statement .ld_C_E := encodedLength_of_first_byte 0x4B rfl (.inr rfl) rfl (Nat.le_of_ble_eq_true rfl)
theorem EncodedLength.ld_C_H : Statement .ld_C_H := encodedLength_of_first_byte 0x4C rfl (.inr rfl) rfl (Nat.le_of_ble_eq_true rfl)
theorem EncodedLength.ld_C_L : Statement .ld_C_L := encodedLength_of_first_byte 0x4D rfl (.inr rfl) rfl (Nat.le_of_ble_eq_true rfl)
theorem EncodedLength.ld_C_mHL : Statement .ld_C_mHL := encodedLength_of_first_byte 0x4E rfl (.inr rfl) rfl (Nat.le_of_ble_eq_true rfl)
theorem EncodedLength.ld_C_A : Statement .ld_C_A := encodedLength_of_first_byte 0x4F rfl (.inr rfl) rfl (Nat.le_of_ble_eq_true rfl)
theorem EncodedLength.ld_D_B : Statement .ld_D_B := encodedLength_of_first_byte 0x50 rfl (.inr rfl) rfl (Nat.le_of_ble_eq_true rfl)
theorem EncodedLength.ld_D_C : Statement .ld_D_C := encodedLength_of_first_byte 0x51 rfl (.inr rfl) rfl (Nat.le_of_ble_eq_true rfl)
theorem EncodedLength.ld_D_D : Statement .ld_D_D := encodedLength_of_first_byte 0x52 rfl (.inr rfl) rfl (Nat.le_of_ble_eq_true rfl)
theorem EncodedLength.ld_D_E : Statement .ld_D_E := encodedLength_of_first_byte 0x53 rfl (.inr rfl) rfl (Nat.le_of_ble_eq_true rfl)
theorem EncodedLength.ld_D_H : Statement .ld_D_H := encodedLength_of_first_byte 0x54 rfl (.inr rfl) rfl (Nat.le_of_ble_eq_true rfl)
theorem EncodedLength.ld_D_L : Statement .ld_D_L := encodedLength_of_first_byte 0x55 rfl (.inr rfl) rfl (Nat.le_of_ble_eq_true rfl)
theorem EncodedLength.ld_D_mHL : Statement .ld_D_mHL := encodedLength_of_first_byte 0x56 rfl (.inr rfl) rfl (Nat.le_of_ble_eq_true rfl)
theorem EncodedLength.ld_D_A : Statement .ld_D_A := encodedLength_of_first_byte 0x57 rfl (.inr rfl) rfl (Nat.le_of_ble_eq_true rfl)
theorem EncodedLength.ld_E_B : Statement .ld_E_B := encodedLength_of_first_byte 0x58 rfl (.inr rfl) rfl (Nat.le_of_ble_eq_true rfl)
theorem EncodedLength.ld_E_C : Statement .ld_E_C := encodedLength_of_first_byte 0x59 rfl (.inr rfl) rfl (Nat.le_of_ble_eq_true rfl)
theorem EncodedLength.ld_E_D : Statement .ld_E_D := encodedLength_of_first_byte 0x5A rfl (.inr rfl) rfl (Nat.le_of_ble_eq_true rfl)
theorem EncodedLength.ld_E_E : Statement .ld_E_E := encodedLength_of_first_byte 0x5B rfl (.inr rfl) rfl (Nat.le_of_ble_eq_true rfl)
theorem EncodedLength.ld_E_H : Statement .ld_E_H := encodedLength_of_first_byte 0x5C rfl (.inr rfl) rfl (Nat.le_of_ble_eq_true rfl)
theorem EncodedLength.ld_E_L : Statement .ld_E_L := encodedLength_of_first_byte 0x5D rfl (.inr rfl) rfl (Nat.le_of_ble_eq_true rfl)
theorem EncodedLength.ld_E_mHL : Statement .ld_E_mHL := encodedLength_of_first_byte 0x5E rfl (.inr rfl) rfl (Nat.le_of_ble_eq_true rfl)
theorem EncodedLength.ld_E_A : Statement .ld_E_A := encodedLength_of_first_byte 0x5F rfl (.inr rfl) rfl (Nat.le_of_ble_eq_true rfl)
theorem EncodedLength.ld_H_B : Statement .ld_H_B := encodedLength_of_first_byte 0x60 rfl (.inr rfl) rfl (Nat.le_of_ble_eq_true rfl)
theorem EncodedLength.ld_H_C : Statement .ld_H_C := encodedLength_of_first_byte 0x61 rfl (.inr rfl) rfl (Nat.le_of_ble_eq_true rfl)
theorem EncodedLength.ld_H_D : Statement .ld_H_D := encodedLength_of_first_byte 0x62 rfl (.inr rfl) rfl (Nat.le_of_ble_eq_true rfl)
theorem EncodedLength.ld_H_E : Statement .ld_H_E := encodedLength_of_first_byte 0x63 rfl (.inr rfl) rfl (Nat.le_of_ble_eq_true rfl)
theorem EncodedLength.ld_H_H : Statement .ld_H_H := encodedLength_of_first_byte 0x64 rfl (.inr rfl) rfl (Nat.le_of_ble_eq_true rfl)
theorem EncodedLength.ld_H_L : Statement .ld_H_L := encodedLength_of_first_byte 0x65 rfl (.inr rfl) rfl (Nat.le_of_ble_eq_true rfl)
theorem EncodedLength.ld_H_mHL : Statement .ld_H_mHL := encodedLength_of_first_byte 0x66 rfl (.inr rfl) rfl (Nat.le_of_ble_eq_true rfl)
theorem EncodedLength.ld_H_A : Statement .ld_H_A := encodedLength_of_first_byte 0x67 rfl (.inr rfl) rfl (Nat.le_of_ble_eq_true rfl)
theorem EncodedLength.ld_L_B : Statement .ld_L_B := encodedLength_of_first_byte 0x68 rfl (.inr rfl) rfl (Nat.le_of_ble_eq_true rfl)
theorem EncodedLength.ld_L_C : Statement .ld_L_C := encodedLength_of_first_byte 0x69 rfl (.inr rfl) rfl (Nat.le_of_ble_eq_true rfl)
theorem EncodedLength.ld_L_D : Statement .ld_L_D := encodedLength_of_first_byte 0x6A rfl (.inr rfl) rfl (Nat.le_of_ble_eq_true rfl)
theorem EncodedLength.ld_L_E : Statement .ld_L_E := encodedLength_of_first_byte 0x6B rfl (.inr rfl) rfl (Nat.le_of_ble_eq_true rfl)
theorem EncodedLength.ld_L_H : Statement .ld_L_H := encodedLength_of_first_byte 0x6C rfl (.inr rfl) rfl (Nat.le_of_ble_eq_true rfl)
theorem EncodedLength.ld_L_L : Statement .ld_L_L := encodedLength_of_first_byte 0x6D rfl (.inr rfl) rfl (Nat.le_of_ble_eq_true rfl)
theorem EncodedLength.ld_L_mHL : Statement .ld_L_mHL := encodedLength_of_first_byte 0x6E rfl (.inr rfl) rfl (Nat.le_of_ble_eq_true rfl)
theorem EncodedLength.ld_L_A : Statement .ld_L_A := encodedLength_of_first_byte 0x6F rfl (.inr rfl) rfl (Nat.le_of_ble_eq_true rfl)
theorem EncodedLength.ld_mHL_B : Statement .ld_mHL_B := encodedLength_of_first_byte 0x70 rfl (.inr rfl) rfl (Nat.le_of_ble_eq_true rfl)
theorem EncodedLength.ld_mHL_C : Statement .ld_mHL_C := encodedLength_of_first_byte 0x71 rfl (.inr rfl) rfl (Nat.le_of_ble_eq_true rfl)
theorem EncodedLength.ld_mHL_D : Statement .ld_mHL_D := encodedLength_of_first_byte 0x72 rfl (.inr rfl) rfl (Nat.le_of_ble_eq_true rfl)
theorem EncodedLength.ld_mHL_E : Statement .ld_mHL_E := encodedLength_of_first_byte 0x73 rfl (.inr rfl) rfl (Nat.le_of_ble_eq_true rfl)
theorem EncodedLength.ld_mHL_H : Statement .ld_mHL_H := encodedLength_of_first_byte 0x74 rfl (.inr rfl) rfl (Nat.le_of_ble_eq_true rfl)
theorem EncodedLength.ld_mHL_L : Statement .ld_mHL_L := encodedLength_of_first_byte 0x75 rfl (.inr rfl) rfl (Nat.le_of_ble_eq_true rfl)
theorem EncodedLength.ld_mHL_A : Statement .ld_mHL_A := encodedLength_of_first_byte 0x77 rfl (.inr rfl) rfl (Nat.le_of_ble_eq_true rfl)
theorem EncodedLength.ld_A_B : Statement .ld_A_B := encodedLength_of_first_byte 0x78 rfl (.inr rfl) rfl (Nat.le_of_ble_eq_true rfl)
theorem EncodedLength.ld_A_C : Statement .ld_A_C := encodedLength_of_first_byte 0x79 rfl (.inr rfl) rfl (Nat.le_of_ble_eq_true rfl)
theorem EncodedLength.ld_A_D : Statement .ld_A_D := encodedLength_of_first_byte 0x7A rfl (.inr rfl) rfl (Nat.le_of_ble_eq_true rfl)
theorem EncodedLength.ld_A_E : Statement .ld_A_E := encodedLength_of_first_byte 0x7B rfl (.inr rfl) rfl (Nat.le_of_ble_eq_true rfl)
theorem EncodedLength.ld_A_H : Statement .ld_A_H := encodedLength_of_first_byte 0x7C rfl (.inr rfl) rfl (Nat.le_of_ble_eq_true rfl)
theorem EncodedLength.ld_A_L : Statement .ld_A_L := encodedLength_of_first_byte 0x7D rfl (.inr rfl) rfl (Nat.le_of_ble_eq_true rfl)
theorem EncodedLength.ld_A_mHL : Statement .ld_A_mHL := encodedLength_of_first_byte 0x7E rfl (.inr rfl) rfl (Nat.le_of_ble_eq_true rfl)
theorem EncodedLength.ld_A_A : Statement .ld_A_A := encodedLength_of_first_byte 0x7F rfl (.inr rfl) rfl (Nat.le_of_ble_eq_true rfl)
theorem EncodedLength.jp_NZ_a16 (a16 : Word) : Statement (.jp_NZ_a16 a16) := encodedLength_of_first_byte 0xC2 rfl (.inl (by decide)) rfl (Nat.le_of_ble_eq_true rfl)
theorem EncodedLength.jp_a16 (a16 : Word) : Statement (.jp_a16 a16) := encodedLength_of_first_byte 0xC3 rfl (.inl (by decide)) rfl (Nat.le_of_ble_eq_true rfl)
theorem EncodedLength.call_NZ_a16 (a16 : Word) : Statement (.call_NZ_a16 a16) := encodedLength_of_first_byte 0xC4 rfl (.inl (by decide)) rfl (Nat.le_of_ble_eq_true rfl)
theorem EncodedLength.push_BC : Statement .push_BC := encodedLength_of_first_byte 0xC5 rfl (.inr rfl) rfl (Nat.le_of_ble_eq_true rfl)
theorem EncodedLength.rst_00 : Statement .rst_00 := encodedLength_of_first_byte 0xC7 rfl (.inr rfl) rfl (Nat.le_of_ble_eq_true rfl)
theorem EncodedLength.jp_Z_a16 (a16 : Word) : Statement (.jp_Z_a16 a16) := encodedLength_of_first_byte 0xCA rfl (.inl (by decide)) rfl (Nat.le_of_ble_eq_true rfl)
theorem EncodedLength.call_Z_a16 (a16 : Word) : Statement (.call_Z_a16 a16) := encodedLength_of_first_byte 0xCC rfl (.inl (by decide)) rfl (Nat.le_of_ble_eq_true rfl)
theorem EncodedLength.call_a16 (a16 : Word) : Statement (.call_a16 a16) := encodedLength_of_first_byte 0xCD rfl (.inl (by decide)) rfl (Nat.le_of_ble_eq_true rfl)
theorem EncodedLength.rst_08 : Statement .rst_08 := encodedLength_of_first_byte 0xCF rfl (.inr rfl) rfl (Nat.le_of_ble_eq_true rfl)
theorem EncodedLength.jp_NC_a16 (a16 : Word) : Statement (.jp_NC_a16 a16) := encodedLength_of_first_byte 0xD2 rfl (.inl (by decide)) rfl (Nat.le_of_ble_eq_true rfl)
theorem EncodedLength.call_NC_a16 (a16 : Word) : Statement (.call_NC_a16 a16) := encodedLength_of_first_byte 0xD4 rfl (.inl (by decide)) rfl (Nat.le_of_ble_eq_true rfl)
theorem EncodedLength.push_DE : Statement .push_DE := encodedLength_of_first_byte 0xD5 rfl (.inr rfl) rfl (Nat.le_of_ble_eq_true rfl)
theorem EncodedLength.rst_10 : Statement .rst_10 := encodedLength_of_first_byte 0xD7 rfl (.inr rfl) rfl (Nat.le_of_ble_eq_true rfl)
theorem EncodedLength.jp_C_a16 (a16 : Word) : Statement (.jp_C_a16 a16) := encodedLength_of_first_byte 0xDA rfl (.inl (by decide)) rfl (Nat.le_of_ble_eq_true rfl)
theorem EncodedLength.call_C_a16 (a16 : Word) : Statement (.call_C_a16 a16) := encodedLength_of_first_byte 0xDC rfl (.inl (by decide)) rfl (Nat.le_of_ble_eq_true rfl)
theorem EncodedLength.rst_18 : Statement .rst_18 := encodedLength_of_first_byte 0xDF rfl (.inr rfl) rfl (Nat.le_of_ble_eq_true rfl)
theorem EncodedLength.ldh_ma8_A (a8 : Byte) : Statement (.ldh_ma8_A a8) := encodedLength_of_first_byte 0xE0 rfl (.inl (by decide)) rfl (Nat.le_of_ble_eq_true rfl)
theorem EncodedLength.ldh_mC_A : Statement .ldh_mC_A := encodedLength_of_first_byte 0xE2 rfl (.inr rfl) rfl (Nat.le_of_ble_eq_true rfl)
theorem EncodedLength.push_HL : Statement .push_HL := encodedLength_of_first_byte 0xE5 rfl (.inr rfl) rfl (Nat.le_of_ble_eq_true rfl)
theorem EncodedLength.rst_20 : Statement .rst_20 := encodedLength_of_first_byte 0xE7 rfl (.inr rfl) rfl (Nat.le_of_ble_eq_true rfl)
theorem EncodedLength.jp_HL : Statement .jp_HL := encodedLength_of_first_byte 0xE9 rfl (.inr rfl) rfl (Nat.le_of_ble_eq_true rfl)
theorem EncodedLength.ld_ma16_A (a16 : Word) : Statement (.ld_ma16_A a16) := encodedLength_of_first_byte 0xEA rfl (.inl (by decide)) rfl (Nat.le_of_ble_eq_true rfl)
theorem EncodedLength.rst_28 : Statement .rst_28 := encodedLength_of_first_byte 0xEF rfl (.inr rfl) rfl (Nat.le_of_ble_eq_true rfl)
theorem EncodedLength.ldh_A_ma8 (a8 : Byte) : Statement (.ldh_A_ma8 a8) := encodedLength_of_first_byte 0xF0 rfl (.inl (by decide)) rfl (Nat.le_of_ble_eq_true rfl)
theorem EncodedLength.ldh_A_mC : Statement .ldh_A_mC := encodedLength_of_first_byte 0xF2 rfl (.inr rfl) rfl (Nat.le_of_ble_eq_true rfl)
theorem EncodedLength.push_AF : Statement .push_AF := encodedLength_of_first_byte 0xF5 rfl (.inr rfl) rfl (Nat.le_of_ble_eq_true rfl)
theorem EncodedLength.rst_30 : Statement .rst_30 := encodedLength_of_first_byte 0xF7 rfl (.inr rfl) rfl (Nat.le_of_ble_eq_true rfl)
theorem EncodedLength.ld_HL_SPe8 (e8 : Byte) : Statement (.ld_HL_SPe8 e8) := encodedLength_of_first_byte 0xF8 rfl (.inl (by decide)) rfl (Nat.le_of_ble_eq_true rfl)
theorem EncodedLength.ld_SP_HL : Statement .ld_SP_HL := encodedLength_of_first_byte 0xF9 rfl (.inr rfl) rfl (Nat.le_of_ble_eq_true rfl)
theorem EncodedLength.ld_A_ma16 (a16 : Word) : Statement (.ld_A_ma16 a16) := encodedLength_of_first_byte 0xFA rfl (.inl (by decide)) rfl (Nat.le_of_ble_eq_true rfl)
theorem EncodedLength.rst_38 : Statement .rst_38 := encodedLength_of_first_byte 0xFF rfl (.inr rfl) rfl (Nat.le_of_ble_eq_true rfl)
theorem EncodedLength.rlc (r8 : Operand8) : Statement (.rlc r8) := encodedLength_of_prefixed rfl rfl
theorem EncodedLength.rrc (r8 : Operand8) : Statement (.rrc r8) := encodedLength_of_prefixed rfl rfl
theorem EncodedLength.rl (r8 : Operand8) : Statement (.rl r8) := encodedLength_of_prefixed rfl rfl
theorem EncodedLength.rr (r8 : Operand8) : Statement (.rr r8) := encodedLength_of_prefixed rfl rfl
theorem EncodedLength.sla (r8 : Operand8) : Statement (.sla r8) := encodedLength_of_prefixed rfl rfl
theorem EncodedLength.sra (r8 : Operand8) : Statement (.sra r8) := encodedLength_of_prefixed rfl rfl
theorem EncodedLength.swap (r8 : Operand8) : Statement (.swap r8) := encodedLength_of_prefixed rfl rfl
theorem EncodedLength.srl (r8 : Operand8) : Statement (.srl r8) := encodedLength_of_prefixed rfl rfl
theorem EncodedLength.bit (b3 : BitVec 3) (r8 : Operand8) : Statement (.bit b3 r8) := encodedLength_of_prefixed rfl rfl
theorem EncodedLength.res (b3 : BitVec 3) (r8 : Operand8) : Statement (.res b3 r8) := encodedLength_of_prefixed rfl rfl
theorem EncodedLength.set (b3 : BitVec 3) (r8 : Operand8) : Statement (.set b3 r8) := encodedLength_of_prefixed rfl rfl
theorem EncodedLength.stop_n8 (n8 : Byte) : Statement (.stop_n8 n8) := encodedLength_of_first_byte 0x10 rfl (.inl (by decide)) rfl (Nat.le_of_ble_eq_true rfl)
theorem EncodedLength.add_A_n8 (n8 : Byte) : Statement (.add_A_n8 n8) := encodedLength_of_first_byte 0xC6 rfl (.inl (by decide)) rfl (Nat.le_of_ble_eq_true rfl)
theorem EncodedLength.adc_A_n8 (n8 : Byte) : Statement (.adc_A_n8 n8) := encodedLength_of_first_byte 0xCE rfl (.inl (by decide)) rfl (Nat.le_of_ble_eq_true rfl)
theorem EncodedLength.sub_A_n8 (n8 : Byte) : Statement (.sub_A_n8 n8) := encodedLength_of_first_byte 0xD6 rfl (.inl (by decide)) rfl (Nat.le_of_ble_eq_true rfl)
theorem EncodedLength.sbc_A_n8 (n8 : Byte) : Statement (.sbc_A_n8 n8) := encodedLength_of_first_byte 0xDE rfl (.inl (by decide)) rfl (Nat.le_of_ble_eq_true rfl)
theorem EncodedLength.and_A_n8 (n8 : Byte) : Statement (.and_A_n8 n8) := encodedLength_of_first_byte 0xE6 rfl (.inl (by decide)) rfl (Nat.le_of_ble_eq_true rfl)
theorem EncodedLength.add_SP_e8 (e8 : Byte) : Statement (.add_SP_e8 e8) := encodedLength_of_first_byte 0xE8 rfl (.inl (by decide)) rfl (Nat.le_of_ble_eq_true rfl)
theorem EncodedLength.xor_A_n8 (n8 : Byte) : Statement (.xor_A_n8 n8) := encodedLength_of_first_byte 0xEE rfl (.inl (by decide)) rfl (Nat.le_of_ble_eq_true rfl)
theorem EncodedLength.or_A_n8 (n8 : Byte) : Statement (.or_A_n8 n8) := encodedLength_of_first_byte 0xF6 rfl (.inl (by decide)) rfl (Nat.le_of_ble_eq_true rfl)
theorem EncodedLength.cp_A_n8 (n8 : Byte) : Statement (.cp_A_n8 n8) := encodedLength_of_first_byte 0xFE rfl (.inl (by decide)) rfl (Nat.le_of_ble_eq_true rfl)
theorem EncodedLength.inc_BC : Statement .inc_BC := encodedLength_of_first_byte 0x03 rfl (.inr rfl) rfl (Nat.le_of_ble_eq_true rfl)
theorem EncodedLength.inc_B : Statement .inc_B := encodedLength_of_first_byte 0x04 rfl (.inr rfl) rfl (Nat.le_of_ble_eq_true rfl)
theorem EncodedLength.dec_B : Statement .dec_B := encodedLength_of_first_byte 0x05 rfl (.inr rfl) rfl (Nat.le_of_ble_eq_true rfl)
theorem EncodedLength.rlca : Statement .rlca := encodedLength_of_first_byte 0x07 rfl (.inr rfl) rfl (Nat.le_of_ble_eq_true rfl)
theorem EncodedLength.add_HL_BC : Statement .add_HL_BC := encodedLength_of_first_byte 0x09 rfl (.inr rfl) rfl (Nat.le_of_ble_eq_true rfl)
theorem EncodedLength.dec_BC : Statement .dec_BC := encodedLength_of_first_byte 0x0B rfl (.inr rfl) rfl (Nat.le_of_ble_eq_true rfl)
theorem EncodedLength.inc_C : Statement .inc_C := encodedLength_of_first_byte 0x0C rfl (.inr rfl) rfl (Nat.le_of_ble_eq_true rfl)
theorem EncodedLength.dec_C : Statement .dec_C := encodedLength_of_first_byte 0x0D rfl (.inr rfl) rfl (Nat.le_of_ble_eq_true rfl)
theorem EncodedLength.rrca : Statement .rrca := encodedLength_of_first_byte 0x0F rfl (.inr rfl) rfl (Nat.le_of_ble_eq_true rfl)
theorem EncodedLength.inc_DE : Statement .inc_DE := encodedLength_of_first_byte 0x13 rfl (.inr rfl) rfl (Nat.le_of_ble_eq_true rfl)
theorem EncodedLength.inc_D : Statement .inc_D := encodedLength_of_first_byte 0x14 rfl (.inr rfl) rfl (Nat.le_of_ble_eq_true rfl)
theorem EncodedLength.dec_D : Statement .dec_D := encodedLength_of_first_byte 0x15 rfl (.inr rfl) rfl (Nat.le_of_ble_eq_true rfl)
theorem EncodedLength.rla : Statement .rla := encodedLength_of_first_byte 0x17 rfl (.inr rfl) rfl (Nat.le_of_ble_eq_true rfl)
theorem EncodedLength.add_HL_DE : Statement .add_HL_DE := encodedLength_of_first_byte 0x19 rfl (.inr rfl) rfl (Nat.le_of_ble_eq_true rfl)
theorem EncodedLength.dec_DE : Statement .dec_DE := encodedLength_of_first_byte 0x1B rfl (.inr rfl) rfl (Nat.le_of_ble_eq_true rfl)
theorem EncodedLength.inc_E : Statement .inc_E := encodedLength_of_first_byte 0x1C rfl (.inr rfl) rfl (Nat.le_of_ble_eq_true rfl)
theorem EncodedLength.dec_E : Statement .dec_E := encodedLength_of_first_byte 0x1D rfl (.inr rfl) rfl (Nat.le_of_ble_eq_true rfl)
theorem EncodedLength.rra : Statement .rra := encodedLength_of_first_byte 0x1F rfl (.inr rfl) rfl (Nat.le_of_ble_eq_true rfl)
theorem EncodedLength.inc_HL : Statement .inc_HL := encodedLength_of_first_byte 0x23 rfl (.inr rfl) rfl (Nat.le_of_ble_eq_true rfl)
theorem EncodedLength.inc_H : Statement .inc_H := encodedLength_of_first_byte 0x24 rfl (.inr rfl) rfl (Nat.le_of_ble_eq_true rfl)
theorem EncodedLength.dec_H : Statement .dec_H := encodedLength_of_first_byte 0x25 rfl (.inr rfl) rfl (Nat.le_of_ble_eq_true rfl)
theorem EncodedLength.daa : Statement .daa := encodedLength_of_first_byte 0x27 rfl (.inr rfl) rfl (Nat.le_of_ble_eq_true rfl)
theorem EncodedLength.add_HL_HL : Statement .add_HL_HL := encodedLength_of_first_byte 0x29 rfl (.inr rfl) rfl (Nat.le_of_ble_eq_true rfl)
theorem EncodedLength.dec_HL : Statement .dec_HL := encodedLength_of_first_byte 0x2B rfl (.inr rfl) rfl (Nat.le_of_ble_eq_true rfl)
theorem EncodedLength.inc_L : Statement .inc_L := encodedLength_of_first_byte 0x2C rfl (.inr rfl) rfl (Nat.le_of_ble_eq_true rfl)
theorem EncodedLength.dec_L : Statement .dec_L := encodedLength_of_first_byte 0x2D rfl (.inr rfl) rfl (Nat.le_of_ble_eq_true rfl)
theorem EncodedLength.cpl : Statement .cpl := encodedLength_of_first_byte 0x2F rfl (.inr rfl) rfl (Nat.le_of_ble_eq_true rfl)
theorem EncodedLength.inc_SP : Statement .inc_SP := encodedLength_of_first_byte 0x33 rfl (.inr rfl) rfl (Nat.le_of_ble_eq_true rfl)
theorem EncodedLength.inc_mHL : Statement .inc_mHL := encodedLength_of_first_byte 0x34 rfl (.inr rfl) rfl (Nat.le_of_ble_eq_true rfl)
theorem EncodedLength.dec_mHL : Statement .dec_mHL := encodedLength_of_first_byte 0x35 rfl (.inr rfl) rfl (Nat.le_of_ble_eq_true rfl)
theorem EncodedLength.scf : Statement .scf := encodedLength_of_first_byte 0x37 rfl (.inr rfl) rfl (Nat.le_of_ble_eq_true rfl)
theorem EncodedLength.add_HL_SP : Statement .add_HL_SP := encodedLength_of_first_byte 0x39 rfl (.inr rfl) rfl (Nat.le_of_ble_eq_true rfl)
theorem EncodedLength.dec_SP : Statement .dec_SP := encodedLength_of_first_byte 0x3B rfl (.inr rfl) rfl (Nat.le_of_ble_eq_true rfl)
theorem EncodedLength.inc_A : Statement .inc_A := encodedLength_of_first_byte 0x3C rfl (.inr rfl) rfl (Nat.le_of_ble_eq_true rfl)
theorem EncodedLength.dec_A : Statement .dec_A := encodedLength_of_first_byte 0x3D rfl (.inr rfl) rfl (Nat.le_of_ble_eq_true rfl)
theorem EncodedLength.ccf : Statement .ccf := encodedLength_of_first_byte 0x3F rfl (.inr rfl) rfl (Nat.le_of_ble_eq_true rfl)
theorem EncodedLength.halt : Statement .halt := encodedLength_of_first_byte 0x76 rfl (.inr rfl) rfl (Nat.le_of_ble_eq_true rfl)
theorem EncodedLength.add_A_B : Statement .add_A_B := encodedLength_of_first_byte 0x80 rfl (.inr rfl) rfl (Nat.le_of_ble_eq_true rfl)
theorem EncodedLength.add_A_C : Statement .add_A_C := encodedLength_of_first_byte 0x81 rfl (.inr rfl) rfl (Nat.le_of_ble_eq_true rfl)
theorem EncodedLength.add_A_D : Statement .add_A_D := encodedLength_of_first_byte 0x82 rfl (.inr rfl) rfl (Nat.le_of_ble_eq_true rfl)
theorem EncodedLength.add_A_E : Statement .add_A_E := encodedLength_of_first_byte 0x83 rfl (.inr rfl) rfl (Nat.le_of_ble_eq_true rfl)
theorem EncodedLength.add_A_H : Statement .add_A_H := encodedLength_of_first_byte 0x84 rfl (.inr rfl) rfl (Nat.le_of_ble_eq_true rfl)
theorem EncodedLength.add_A_L : Statement .add_A_L := encodedLength_of_first_byte 0x85 rfl (.inr rfl) rfl (Nat.le_of_ble_eq_true rfl)
theorem EncodedLength.add_A_mHL : Statement .add_A_mHL := encodedLength_of_first_byte 0x86 rfl (.inr rfl) rfl (Nat.le_of_ble_eq_true rfl)
theorem EncodedLength.add_A_A : Statement .add_A_A := encodedLength_of_first_byte 0x87 rfl (.inr rfl) rfl (Nat.le_of_ble_eq_true rfl)
theorem EncodedLength.adc_A_B : Statement .adc_A_B := encodedLength_of_first_byte 0x88 rfl (.inr rfl) rfl (Nat.le_of_ble_eq_true rfl)
theorem EncodedLength.adc_A_C : Statement .adc_A_C := encodedLength_of_first_byte 0x89 rfl (.inr rfl) rfl (Nat.le_of_ble_eq_true rfl)
theorem EncodedLength.adc_A_D : Statement .adc_A_D := encodedLength_of_first_byte 0x8A rfl (.inr rfl) rfl (Nat.le_of_ble_eq_true rfl)
theorem EncodedLength.adc_A_E : Statement .adc_A_E := encodedLength_of_first_byte 0x8B rfl (.inr rfl) rfl (Nat.le_of_ble_eq_true rfl)
theorem EncodedLength.adc_A_H : Statement .adc_A_H := encodedLength_of_first_byte 0x8C rfl (.inr rfl) rfl (Nat.le_of_ble_eq_true rfl)
theorem EncodedLength.adc_A_L : Statement .adc_A_L := encodedLength_of_first_byte 0x8D rfl (.inr rfl) rfl (Nat.le_of_ble_eq_true rfl)
theorem EncodedLength.adc_A_mHL : Statement .adc_A_mHL := encodedLength_of_first_byte 0x8E rfl (.inr rfl) rfl (Nat.le_of_ble_eq_true rfl)
theorem EncodedLength.adc_A_A : Statement .adc_A_A := encodedLength_of_first_byte 0x8F rfl (.inr rfl) rfl (Nat.le_of_ble_eq_true rfl)
theorem EncodedLength.sub_A_B : Statement .sub_A_B := encodedLength_of_first_byte 0x90 rfl (.inr rfl) rfl (Nat.le_of_ble_eq_true rfl)
theorem EncodedLength.sub_A_C : Statement .sub_A_C := encodedLength_of_first_byte 0x91 rfl (.inr rfl) rfl (Nat.le_of_ble_eq_true rfl)
theorem EncodedLength.sub_A_D : Statement .sub_A_D := encodedLength_of_first_byte 0x92 rfl (.inr rfl) rfl (Nat.le_of_ble_eq_true rfl)
theorem EncodedLength.sub_A_E : Statement .sub_A_E := encodedLength_of_first_byte 0x93 rfl (.inr rfl) rfl (Nat.le_of_ble_eq_true rfl)
theorem EncodedLength.sub_A_H : Statement .sub_A_H := encodedLength_of_first_byte 0x94 rfl (.inr rfl) rfl (Nat.le_of_ble_eq_true rfl)
theorem EncodedLength.sub_A_L : Statement .sub_A_L := encodedLength_of_first_byte 0x95 rfl (.inr rfl) rfl (Nat.le_of_ble_eq_true rfl)
theorem EncodedLength.sub_A_mHL : Statement .sub_A_mHL := encodedLength_of_first_byte 0x96 rfl (.inr rfl) rfl (Nat.le_of_ble_eq_true rfl)
theorem EncodedLength.sub_A_A : Statement .sub_A_A := encodedLength_of_first_byte 0x97 rfl (.inr rfl) rfl (Nat.le_of_ble_eq_true rfl)
theorem EncodedLength.sbc_A_B : Statement .sbc_A_B := encodedLength_of_first_byte 0x98 rfl (.inr rfl) rfl (Nat.le_of_ble_eq_true rfl)
theorem EncodedLength.sbc_A_C : Statement .sbc_A_C := encodedLength_of_first_byte 0x99 rfl (.inr rfl) rfl (Nat.le_of_ble_eq_true rfl)
theorem EncodedLength.sbc_A_D : Statement .sbc_A_D := encodedLength_of_first_byte 0x9A rfl (.inr rfl) rfl (Nat.le_of_ble_eq_true rfl)
theorem EncodedLength.sbc_A_E : Statement .sbc_A_E := encodedLength_of_first_byte 0x9B rfl (.inr rfl) rfl (Nat.le_of_ble_eq_true rfl)
theorem EncodedLength.sbc_A_H : Statement .sbc_A_H := encodedLength_of_first_byte 0x9C rfl (.inr rfl) rfl (Nat.le_of_ble_eq_true rfl)
theorem EncodedLength.sbc_A_L : Statement .sbc_A_L := encodedLength_of_first_byte 0x9D rfl (.inr rfl) rfl (Nat.le_of_ble_eq_true rfl)
theorem EncodedLength.sbc_A_mHL : Statement .sbc_A_mHL := encodedLength_of_first_byte 0x9E rfl (.inr rfl) rfl (Nat.le_of_ble_eq_true rfl)
theorem EncodedLength.sbc_A_A : Statement .sbc_A_A := encodedLength_of_first_byte 0x9F rfl (.inr rfl) rfl (Nat.le_of_ble_eq_true rfl)
theorem EncodedLength.and_A_B : Statement .and_A_B := encodedLength_of_first_byte 0xA0 rfl (.inr rfl) rfl (Nat.le_of_ble_eq_true rfl)
theorem EncodedLength.and_A_C : Statement .and_A_C := encodedLength_of_first_byte 0xA1 rfl (.inr rfl) rfl (Nat.le_of_ble_eq_true rfl)
theorem EncodedLength.and_A_D : Statement .and_A_D := encodedLength_of_first_byte 0xA2 rfl (.inr rfl) rfl (Nat.le_of_ble_eq_true rfl)
theorem EncodedLength.and_A_E : Statement .and_A_E := encodedLength_of_first_byte 0xA3 rfl (.inr rfl) rfl (Nat.le_of_ble_eq_true rfl)
theorem EncodedLength.and_A_H : Statement .and_A_H := encodedLength_of_first_byte 0xA4 rfl (.inr rfl) rfl (Nat.le_of_ble_eq_true rfl)
theorem EncodedLength.and_A_L : Statement .and_A_L := encodedLength_of_first_byte 0xA5 rfl (.inr rfl) rfl (Nat.le_of_ble_eq_true rfl)
theorem EncodedLength.and_A_mHL : Statement .and_A_mHL := encodedLength_of_first_byte 0xA6 rfl (.inr rfl) rfl (Nat.le_of_ble_eq_true rfl)
theorem EncodedLength.and_A_A : Statement .and_A_A := encodedLength_of_first_byte 0xA7 rfl (.inr rfl) rfl (Nat.le_of_ble_eq_true rfl)
theorem EncodedLength.xor_A_B : Statement .xor_A_B := encodedLength_of_first_byte 0xA8 rfl (.inr rfl) rfl (Nat.le_of_ble_eq_true rfl)
theorem EncodedLength.xor_A_C : Statement .xor_A_C := encodedLength_of_first_byte 0xA9 rfl (.inr rfl) rfl (Nat.le_of_ble_eq_true rfl)
theorem EncodedLength.xor_A_D : Statement .xor_A_D := encodedLength_of_first_byte 0xAA rfl (.inr rfl) rfl (Nat.le_of_ble_eq_true rfl)
theorem EncodedLength.xor_A_E : Statement .xor_A_E := encodedLength_of_first_byte 0xAB rfl (.inr rfl) rfl (Nat.le_of_ble_eq_true rfl)
theorem EncodedLength.xor_A_H : Statement .xor_A_H := encodedLength_of_first_byte 0xAC rfl (.inr rfl) rfl (Nat.le_of_ble_eq_true rfl)
theorem EncodedLength.xor_A_L : Statement .xor_A_L := encodedLength_of_first_byte 0xAD rfl (.inr rfl) rfl (Nat.le_of_ble_eq_true rfl)
theorem EncodedLength.xor_A_mHL : Statement .xor_A_mHL := encodedLength_of_first_byte 0xAE rfl (.inr rfl) rfl (Nat.le_of_ble_eq_true rfl)
theorem EncodedLength.xor_A_A : Statement .xor_A_A := encodedLength_of_first_byte 0xAF rfl (.inr rfl) rfl (Nat.le_of_ble_eq_true rfl)
theorem EncodedLength.or_A_B : Statement .or_A_B := encodedLength_of_first_byte 0xB0 rfl (.inr rfl) rfl (Nat.le_of_ble_eq_true rfl)
theorem EncodedLength.or_A_C : Statement .or_A_C := encodedLength_of_first_byte 0xB1 rfl (.inr rfl) rfl (Nat.le_of_ble_eq_true rfl)
theorem EncodedLength.or_A_D : Statement .or_A_D := encodedLength_of_first_byte 0xB2 rfl (.inr rfl) rfl (Nat.le_of_ble_eq_true rfl)
theorem EncodedLength.or_A_E : Statement .or_A_E := encodedLength_of_first_byte 0xB3 rfl (.inr rfl) rfl (Nat.le_of_ble_eq_true rfl)
theorem EncodedLength.or_A_H : Statement .or_A_H := encodedLength_of_first_byte 0xB4 rfl (.inr rfl) rfl (Nat.le_of_ble_eq_true rfl)
theorem EncodedLength.or_A_L : Statement .or_A_L := encodedLength_of_first_byte 0xB5 rfl (.inr rfl) rfl (Nat.le_of_ble_eq_true rfl)
theorem EncodedLength.or_A_mHL : Statement .or_A_mHL := encodedLength_of_first_byte 0xB6 rfl (.inr rfl) rfl (Nat.le_of_ble_eq_true rfl)
theorem EncodedLength.or_A_A : Statement .or_A_A := encodedLength_of_first_byte 0xB7 rfl (.inr rfl) rfl (Nat.le_of_ble_eq_true rfl)
theorem EncodedLength.cp_A_B : Statement .cp_A_B := encodedLength_of_first_byte 0xB8 rfl (.inr rfl) rfl (Nat.le_of_ble_eq_true rfl)
theorem EncodedLength.cp_A_C : Statement .cp_A_C := encodedLength_of_first_byte 0xB9 rfl (.inr rfl) rfl (Nat.le_of_ble_eq_true rfl)
theorem EncodedLength.cp_A_D : Statement .cp_A_D := encodedLength_of_first_byte 0xBA rfl (.inr rfl) rfl (Nat.le_of_ble_eq_true rfl)
theorem EncodedLength.cp_A_E : Statement .cp_A_E := encodedLength_of_first_byte 0xBB rfl (.inr rfl) rfl (Nat.le_of_ble_eq_true rfl)
theorem EncodedLength.cp_A_H : Statement .cp_A_H := encodedLength_of_first_byte 0xBC rfl (.inr rfl) rfl (Nat.le_of_ble_eq_true rfl)
theorem EncodedLength.cp_A_L : Statement .cp_A_L := encodedLength_of_first_byte 0xBD rfl (.inr rfl) rfl (Nat.le_of_ble_eq_true rfl)
theorem EncodedLength.cp_A_mHL : Statement .cp_A_mHL := encodedLength_of_first_byte 0xBE rfl (.inr rfl) rfl (Nat.le_of_ble_eq_true rfl)
theorem EncodedLength.cp_A_A : Statement .cp_A_A := encodedLength_of_first_byte 0xBF rfl (.inr rfl) rfl (Nat.le_of_ble_eq_true rfl)
theorem EncodedLength.ret_NZ : Statement .ret_NZ := encodedLength_of_first_byte 0xC0 rfl (.inr rfl) rfl (Nat.le_of_ble_eq_true rfl)
theorem EncodedLength.pop_BC : Statement .pop_BC := encodedLength_of_first_byte 0xC1 rfl (.inr rfl) rfl (Nat.le_of_ble_eq_true rfl)
theorem EncodedLength.ret_Z : Statement .ret_Z := encodedLength_of_first_byte 0xC8 rfl (.inr rfl) rfl (Nat.le_of_ble_eq_true rfl)
theorem EncodedLength.ret : Statement .ret := encodedLength_of_first_byte 0xC9 rfl (.inr rfl) rfl (Nat.le_of_ble_eq_true rfl)
theorem EncodedLength.ret_NC : Statement .ret_NC := encodedLength_of_first_byte 0xD0 rfl (.inr rfl) rfl (Nat.le_of_ble_eq_true rfl)
theorem EncodedLength.pop_DE : Statement .pop_DE := encodedLength_of_first_byte 0xD1 rfl (.inr rfl) rfl (Nat.le_of_ble_eq_true rfl)
theorem EncodedLength.ret_C : Statement .ret_C := encodedLength_of_first_byte 0xD8 rfl (.inr rfl) rfl (Nat.le_of_ble_eq_true rfl)
theorem EncodedLength.reti : Statement .reti := encodedLength_of_first_byte 0xD9 rfl (.inr rfl) rfl (Nat.le_of_ble_eq_true rfl)
theorem EncodedLength.pop_HL : Statement .pop_HL := encodedLength_of_first_byte 0xE1 rfl (.inr rfl) rfl (Nat.le_of_ble_eq_true rfl)
theorem EncodedLength.pop_AF : Statement .pop_AF := encodedLength_of_first_byte 0xF1 rfl (.inr rfl) rfl (Nat.le_of_ble_eq_true rfl)
theorem EncodedLength.di : Statement .di := encodedLength_of_first_byte 0xF3 rfl (.inr rfl) rfl (Nat.le_of_ble_eq_true rfl)
theorem EncodedLength.ei : Statement .ei := encodedLength_of_first_byte 0xFB rfl (.inr rfl) rfl (Nat.le_of_ble_eq_true rfl)
theorem EncodedLength.illegal_D3 : Statement .illegal_D3 := encodedLength_of_first_byte 0xD3 rfl (.inr rfl) rfl (Nat.le_of_ble_eq_true rfl)
theorem EncodedLength.illegal_DB : Statement .illegal_DB := encodedLength_of_first_byte 0xDB rfl (.inr rfl) rfl (Nat.le_of_ble_eq_true rfl)
theorem EncodedLength.illegal_DD : Statement .illegal_DD := encodedLength_of_first_byte 0xDD rfl (.inr rfl) rfl (Nat.le_of_ble_eq_true rfl)
theorem EncodedLength.illegal_E3 : Statement .illegal_E3 := encodedLength_of_first_byte 0xE3 rfl (.inr rfl) rfl (Nat.le_of_ble_eq_true rfl)
theorem EncodedLength.illegal_E4 : Statement .illegal_E4 := encodedLength_of_first_byte 0xE4 rfl (.inr rfl) rfl (Nat.le_of_ble_eq_true rfl)
theorem EncodedLength.illegal_EB : Statement .illegal_EB := encodedLength_of_first_byte 0xEB rfl (.inr rfl) rfl (Nat.le_of_ble_eq_true rfl)
theorem EncodedLength.illegal_EC : Statement .illegal_EC := encodedLength_of_first_byte 0xEC rfl (.inr rfl) rfl (Nat.le_of_ble_eq_true rfl)
theorem EncodedLength.illegal_ED : Statement .illegal_ED := encodedLength_of_first_byte 0xED rfl (.inr rfl) rfl (Nat.le_of_ble_eq_true rfl)
theorem EncodedLength.illegal_F4 : Statement .illegal_F4 := encodedLength_of_first_byte 0xF4 rfl (.inr rfl) rfl (Nat.le_of_ble_eq_true rfl)
theorem EncodedLength.illegal_FC : Statement .illegal_FC := encodedLength_of_first_byte 0xFC rfl (.inr rfl) rfl (Nat.le_of_ble_eq_true rfl)
theorem EncodedLength.illegal_FD : Statement .illegal_FD := encodedLength_of_first_byte 0xFD rfl (.inr rfl) rfl (Nat.le_of_ble_eq_true rfl)
theorem EncodedLength.prefixCB : Statement .prefixCB := encodedLength_of_first_byte 0xCB rfl (.inr rfl) rfl (Nat.le_of_ble_eq_true rfl)

end Sys2Proof.Laws
end

