-- ==== Sys2Proof/Tests/Slice0.lean ====
section
/-! SUPPORT. Tests.  The expected results are the spec's: its encodings, its table of operations E1, and its single-step vectors
V1 to V104 (95_test_vectors.md).  Then one witness for each statement that has hypotheses. -/

section
open Sys2Proof Sys2Proof.Machine

namespace Sys2Proof.Tests

/-! ## Helpers -/

/-- `State.reset` with `PC` and bytes there. -/
def placed (pc : Word) (bytes : List Byte) : State :=
  { State.reset with pc := pc, mem := Memory.storeFrom [] pc bytes }

/-- The state with `Ok` and these cycles as the last result. -/
def done (s : State) (cycles : Nat) : State := { s with lastResult := .ok ⟨cycles, false⟩ }

/-- The state after one step. -/
def after (s : State) : State :=
  match step s with
  | .next t => t
  | .fault _ => s
  | .refused _ => s

/-! ## Well-formedness: an ill-formed term for each check -/

theorem test_wellFormed_refuses_prefixCB : Instr.wellFormed .prefixCB = false := by decide
theorem test_wellFormed_accepts_bit : Instr.wellFormed (.bit 7 .mHL) = true := by decide
theorem test_memory_wf_refuses_unsorted : Memory.wf [(5, 1), (4, 1)] = false := by decide
theorem test_memory_wf_refuses_repeated : Memory.wf [(5, 1), (5, 2)] = false := by decide
theorem test_memory_wf_refuses_unlisted_value : Memory.wf [(5, Config.unlistedByte)] = false := by decide
theorem test_memory_wf_refuses_beyond_space : Memory.wf [(65536, 1)] = false := by decide
theorem test_operand_wf_refuses_F : (OperandSpec.r8 .F).wf = false := by decide
theorem test_operand_wf_refuses_PC : (OperandSpec.r16 .PC).wf = false := by decide
theorem test_operand_wf_refuses_offset : (⟨.imm8 2, false, .none⟩ : OperandSpec).wf = false := by decide
theorem test_operand_wf_refuses_deref_of_B : (⟨.reg8 .B, true, .none⟩ : OperandSpec).wf = false := by decide
theorem test_operand_wf_refuses_adjust_of_BC : (⟨.reg16 .BC, true, .inc⟩ : OperandSpec).wf = false := by decide
theorem test_entry_wf_refuses_length_zero : (Catalog.exe .NOP 0 [4] []).wf false 0x00 = false := by decide
theorem test_entry_wf_refuses_missing_variant : (Catalog.exe .JR 2 [12] [.cond .NZ, .e8]).wf false 0x20 = false := by
  decide
theorem test_entry_wf_refuses_second_variant : (Catalog.exe .JR 2 [12, 8] [.e8]).wf false 0x18 = false := by decide
theorem test_entry_wf_refuses_bad_operand : (Catalog.exe .LD 1 [4] [.r8 .F, .r8 .A]).wf false 0x47 = false := by decide
theorem test_entry_wf_refuses_wrong_flags :
    (Catalog.exe .LD 2 [12] [.r16 .HL, .r16 .SP, .e8]).wf false 0xF8 = false := by decide

/-! ## Decoding: one word of each family, bit by bit from R51 to R63 -/

theorem test_decode_ld_r8_r8 : decode [0b01000111] = .ok (.ld_B_A, []) := by rfl
theorem test_decode_ld_r8_mHL : decode [0b01100110] = .ok (.ld_H_mHL, []) := by rfl
theorem test_decode_ld_mHL_r8 : decode [0b01110101] = .ok (.ld_mHL_L, []) := by rfl
theorem test_decode_ld_r8_n8 : decode [0b00111110, 0x42, 0x47] = .ok (.ld_A_n8 0x42, [0x47]) := by rfl
theorem test_decode_ld_mHL_n8 : decode [0b00110110, 0x99] = .ok (.ld_mHL_n8 0x99, []) := by rfl
theorem test_decode_ld_mHLd_A : decode [0b00110010] = .ok (.ld_mHLd_A, []) := by rfl
theorem test_decode_ld_A_mDE : decode [0b00011010] = .ok (.ld_A_mDE, []) := by rfl
theorem test_decode_ld_ma16_A : decode [0b11101010, 0x34, 0x12] = .ok (.ld_ma16_A 0x1234, []) := by rfl
theorem test_decode_ld_r16_n16 : decode [0b00100001, 0x00, 0xC0] = .ok (.ld_HL_n16 0xC000, []) := by rfl
theorem test_decode_ld_ma16_SP : decode [0b00001000, 0x00, 0xC1] = .ok (.ld_ma16_SP 0xC100, []) := by rfl
theorem test_decode_ld_HL_SPe8 : decode [0b11111000, 0xFE] = .ok (.ld_HL_SPe8 0xFE, []) := by rfl
theorem test_decode_ldh_ma8_A : decode [0b11100000, 0x80] = .ok (.ldh_ma8_A 0x80, []) := by rfl
theorem test_decode_ldh_A_mC : decode [0b11110010] = .ok (.ldh_A_mC, []) := by rfl
theorem test_decode_jp_cc : decode [0b11010010, 0x00, 0x02] = .ok (.jp_NC_a16 0x0200, []) := by rfl
theorem test_decode_jr_cc : decode [0b00101000, 0xFE] = .ok (.jr_Z_e8 0xFE, []) := by rfl
theorem test_decode_call_cc : decode [0b11011100, 0x00, 0x20] = .ok (.call_C_a16 0x2000, []) := by rfl
theorem test_decode_rst : decode [0b11101111] = .ok (.rst_28, []) := by rfl
theorem test_decode_push : decode [0b11110101] = .ok (.push_AF, []) := by rfl
theorem test_decode_nop : decode [0b00000000] = .ok (.nop, []) := by rfl
theorem test_decode_halt : decode [0b01110110] = .ok (.halt, []) := by rfl
theorem test_decode_alu : decode [0b10101110] = .ok (.xor_A_mHL, []) := by rfl
theorem test_decode_illegal : decode [0b11011101] = .ok (.illegal_DD, []) := by rfl
theorem test_decode_bit : decode [0xCB, 0b01111100] = .ok (.bit 7 .H, []) := by rfl
theorem test_decode_swap : decode [0xCB, 0b00110111] = .ok (.swap .A, []) := by rfl
theorem test_decode_cb_cb : decode [0xCB, 0xCB] = .ok (.set 1 .E, []) := by rfl
theorem test_decode_empty : decode [] = .error .empty := by rfl
theorem test_decode_truncated : decode [0xC3, 0x04] = .error (.truncated 3 2) := by rfl
theorem test_encode_call : encode (.call_NZ_a16 0x1234) = [0xC4, 0x34, 0x12] := by rfl
theorem test_encode_res : encode (.res 0 .mHL) = [0xCB, 0x86] := by rfl
theorem test_spelling_of_0x22 : (decode3 0x22 0 0).spelling = "LD (HL+),A" := by rfl
theorem test_spelling_of_0xE2 : (decode3 0xE2 0 0).spelling = "LDH (C),A" := by rfl
theorem test_spelling_of_0xE8 : (decode3 0xE8 0 0).spelling = "ADD SP,e8" := by rfl
theorem test_tableWord_one_byte : decodeTableWord 8 0x41 = some .ld_B_C := by rfl
theorem test_tableWord_prefixed : decodeTableWord 16 0xCB7C = some (.bit 7 .H) := by rfl
theorem test_tableWord_step :
    step (State.reset.withFetchWord 8 0x47) = exec .ld_B_A (State.reset.withFetchWord 8 0x47) := by rfl
theorem test_tableWord_step_prefixed :
    step (State.reset.withFetchWord 16 0xCB37) = exec (.swap .A) (State.reset.withFetchWord 16 0xCB37) := by rfl

/-! ## The register file: instances of E1 -/

theorem test_write_C_seen_in_BC : ((placed 0 []).write16 .BC 0x1234 |>.write8 .C 0x99).read16 .BC = 0x1299 := by rfl
theorem test_write_F_masked : ((placed 0 []).write16 .AF 0x5A00 |>.write8 .F 0xFF).read16 .AF = 0x5AF0 := by rfl
theorem test_write_AF_masked : ((placed 0 []).write16 .AF 0x1234).read8 .F = 0x30 := by rfl
theorem test_write_HL_seen_in_L : ((placed 0 []).write16 .HL 0x00FF).read8 .L = 0xFF := by rfl

/-! ## Reset -/

theorem test_image_is_loaded :
    (⟨[0x3E, 0x42], 0, 0, 0, 0, 0, 0, 0, true, false, false, true, 0xD000, [(0x0001, 0x99), (0xC000, 0x77)]⟩
      : ResetParams).start.mem = [(0, 0x3E), (1, 0x42), (0xC000, 0x77)] := by rfl
theorem test_reset_flags : resetFlags true false false true = 0x90 := by rfl

/-! ## One step: vectors of 95_test_vectors.md, the whole next state -/

theorem test_V1_ld_B_C :
    let s := (((placed 0x0100 [0x41]).write8 .B 0x00).write8 .C 0x9A).write8 .F 0xF0
    after s = done ((s.write8 .B 0x9A).write16 .PC 0x0101) 4 := by rfl
theorem test_V2_ld_A_A :
    let s := ((placed 0x0100 [0x7F]).write8 .A 0x33).write8 .F 0x50
    after s = done (s.write16 .PC 0x0101) 4 := by rfl
theorem test_V3_ld_L_H :
    let s := (placed 0x0100 [0x6C]).write16 .HL 0x12AB
    after s = done ((s.write8 .L 0x12).write16 .PC 0x0101) 4 := by rfl
theorem test_V4_ld_H_mHL :
    let s := ((placed 0x0100 [0x66]).write16 .HL 0x1234).busWrite 0x1234 0xAB
    after s = done ((s.write8 .H 0xAB).write16 .PC 0x0101) 8 := by rfl
theorem test_V6_ld_mHL_H :
    let s := (placed 0x0100 [0x74]).write16 .HL 0xC05A
    after s = done ((s.busWrite 0xC05A 0xC0).write16 .PC 0x0101) 8 := by rfl
theorem test_V7_ld_mHL_A :
    let s := ((placed 0x0100 [0x77]).write16 .HL 0x0100).write8 .A 0x00
    after s = done ((s.busWrite 0x0100 0x00).write16 .PC 0x0101) 8 := by rfl
theorem test_V8_ld_B_n8 :
    let s := placed 0x0100 [0x06, 0xFF]
    after s = done ((s.write8 .B 0xFF).write16 .PC 0x0102) 8 := by rfl
theorem test_V9_ld_A_n8 :
    let s := placed 0xFFFF [0x3E, 0x42]
    after s = done ((s.write8 .A 0x42).write16 .PC 0x0001) 8 := by rfl
theorem test_V10_ld_mHL_n8 :
    let s := (placed 0x0100 [0x36, 0x99]).write16 .HL 0xC000
    after s = done ((s.busWrite 0xC000 0x99).write16 .PC 0x0102) 12 := by rfl
theorem test_V11_ld_mHL_n8 :
    let s := (placed 0x0100 [0x36, 0x99]).write16 .HL 0x0101
    after s = done ((s.busWrite 0x0101 0x99).write16 .PC 0x0102) 12 := by rfl
theorem test_V12_ld_mBC_A :
    let s := ((placed 0x0100 [0x02]).write16 .BC 0xC100).write8 .A 0x5A
    after s = done ((s.busWrite 0xC100 0x5A).write16 .PC 0x0101) 8 := by rfl
theorem test_V13_ld_mDE_A :
    let s := ((placed 0x0100 [0x12]).write16 .DE 0xC200).write8 .A 0x01
    after s = done ((s.busWrite 0xC200 0x01).write16 .PC 0x0101) 8 := by rfl
theorem test_V15_ld_mHLi_A :
    let s := ((placed 0x0100 [0x22]).write16 .HL 0xFFFF).write8 .A 0x7E
    after s = done ((((s.write8 .H 0x00).write8 .L 0x00).busWrite 0xFFFF 0x7E).write16 .PC 0x0101) 8 := by rfl
theorem test_V16_ld_mHLi_A :
    let s := ((placed 0x0100 [0x22]).write16 .HL 0x12FF).write8 .A 0x01
    after s = done ((((s.write8 .H 0x13).write8 .L 0x00).busWrite 0x12FF 0x01).write16 .PC 0x0101) 8 := by rfl
theorem test_V17_ld_mHLd_A :
    let s := ((placed 0x0200 [0x32]).write16 .HL 0x0000).write8 .A 0x7E
    after s = done ((((s.write8 .H 0xFF).write8 .L 0xFF).busWrite 0x0000 0x7E).write16 .PC 0x0201) 8 := by rfl
theorem test_V18_ld_mHLd_A :
    let s := ((placed 0x0100 [0x32]).write16 .HL 0x1300).write8 .A 0x01
    after s = done ((((s.write8 .H 0x12).write8 .L 0xFF).busWrite 0x1300 0x01).write16 .PC 0x0101) 8 := by rfl
theorem test_V19_ld_A_mBC :
    let s := ((placed 0x0100 [0x0A]).write16 .BC 0x0003).busWrite 0x0003 0x77
    after s = done ((s.write8 .A 0x77).write16 .PC 0x0101) 8 := by rfl
theorem test_V20_ld_A_mDE :
    let s := ((placed 0x0100 [0x1A]).write16 .DE 0x0104).busWrite 0x0104 0xCE
    after s = done ((s.write8 .A 0xCE).write16 .PC 0x0101) 8 := by rfl
theorem test_V22_ld_A_mHLi :
    let s := ((placed 0x0100 [0x2A]).write16 .HL 0xFFFF).busWrite 0xFFFF 0x01
    after s = done ((((s.write8 .A 0x01).write8 .H 0x00).write8 .L 0x00).write16 .PC 0x0101) 8 := by rfl
theorem test_V23_ld_A_mHLd :
    let s := ((placed 0x0100 [0x3A]).write16 .HL 0x0150).busWrite 0x0150 0x3C
    after s = done (((s.write8 .A 0x3C).write8 .L 0x4F).write16 .PC 0x0101) 8 := by rfl
theorem test_V24_ld_ma16_A :
    let s := (placed 0x0100 [0xEA, 0x34, 0x12]).write8 .A 0x7F
    after s = done ((s.busWrite 0x1234 0x7F).write16 .PC 0x0103) 16 := by rfl
theorem test_V25_ld_A_ma16 :
    let s := placed 0x0000 [0xFA, 0x02, 0x00]
    after s = done ((s.write8 .A 0x00).write16 .PC 0x0003) 16 := by rfl
theorem test_V26_ld_BC_n16 :
    let s := placed 0x0100 [0x01, 0x34, 0x12]
    after s = done (((s.write8 .B 0x12).write8 .C 0x34).write16 .PC 0x0103) 12 := by rfl
theorem test_V27_ld_DE_n16 :
    let s := placed 0x0100 [0x11, 0xCD, 0xAB]
    after s = done (((s.write8 .D 0xAB).write8 .E 0xCD).write16 .PC 0x0103) 12 := by rfl
theorem test_V29_ld_SP_n16 :
    let s := placed 0x0100 [0x31, 0xFE, 0xFF]
    after s = done ((s.write16 .SP 0xFFFE).write16 .PC 0x0103) 12 := by rfl
theorem test_V30_ld_HL_n16 :
    let s := placed 0xFFFE [0x21, 0x00, 0xC0]
    after s = done (((s.write8 .H 0xC0).write8 .L 0x00).write16 .PC 0x0001) 12 := by rfl
theorem test_V31_ld_ma16_SP :
    let s := (placed 0x0100 [0x08, 0x00, 0xC1]).write16 .SP 0xDFF0
    after s = done (((s.busWrite 0xC100 0xF0).busWrite 0xC101 0xDF).write16 .PC 0x0103) 20 := by rfl
theorem test_V32_ld_ma16_SP :
    let s := (placed 0x0100 [0x08, 0xFF, 0xFF]).write16 .SP 0x1234
    after s = done (((s.busWrite 0xFFFF 0x34).busWrite 0x0000 0x12).write16 .PC 0x0103) 20 := by rfl
theorem test_V33_ld_SP_HL :
    let s := (placed 0x0100 [0xF9]).write16 .HL 0xFFFE
    after s = done ((s.write16 .SP 0xFFFE).write16 .PC 0x0101) 8 := by rfl
theorem test_V36_ld_HL_SPe8 :
    let s := ((placed 0x0100 [0xF8, 0xFF]).write16 .SP 0x0001).write8 .F 0x00
    after s = done ((((s.write8 .F 0x30).write8 .H 0x00).write8 .L 0x00).write16 .PC 0x0102) 12 := by rfl
theorem test_V39_ld_HL_SPe8 :
    let s := ((placed 0x0100 [0xF8, 0x80]).write16 .SP 0x0080).write8 .F 0x00
    after s = done ((((s.write8 .F 0x10).write8 .H 0x00).write8 .L 0x00).write16 .PC 0x0102) 12 := by rfl
theorem test_V41_ldh_ma8_A :
    let s := (placed 0x0100 [0xE0, 0x80]).write8 .A 0x9C
    after s = done ((s.busWrite 0xFF80 0x9C).write16 .PC 0x0102) 12 := by rfl
theorem test_V43_ldh_A_ma8 :
    let s := (placed 0x0100 [0xF0, 0x44]).busWrite 0xFF44 0x90
    after s = done ((s.write8 .A 0x90).write16 .PC 0x0102) 12 := by rfl
theorem test_V45_ldh_mC_A :
    let s := (((placed 0x0100 [0xE2]).write8 .C 0x10).write8 .A 0x80).write8 .B 0x77
    after s = done ((s.busWrite 0xFF10 0x80).write16 .PC 0x0101) 8 := by rfl
theorem test_V46_ldh_A_mC :
    let s := ((placed 0x0100 [0xF2]).write8 .C 0xFF).busWrite 0xFFFF 0x1B
    after s = done ((s.write8 .A 0x1B).write16 .PC 0x0101) 8 := by rfl
theorem test_V48_jp_a16 :
    let s := placed 0x0100 [0xC3, 0x00, 0x01]
    after s = done (s.write16 .PC 0x0100) 16 := by rfl
theorem test_V49_jp_NZ_a16 :
    let s := (placed 0x0100 [0xC2, 0x00, 0x02]).write8 .F 0x80
    after s = done (s.write16 .PC 0x0103) 12 := by rfl
theorem test_V50_jp_NZ_a16 :
    let s := (placed 0x0100 [0xC2, 0x00, 0x02]).write8 .F 0x00
    after s = done (s.write16 .PC 0x0200) 16 := by rfl
theorem test_V51_jp_Z_a16 :
    let s := (placed 0x0100 [0xCA, 0x00, 0x02]).write8 .F 0x80
    after s = done (s.write16 .PC 0x0200) 16 := by rfl
theorem test_V52_jp_NC_a16 :
    let s := (placed 0x0100 [0xD2, 0x00, 0x02]).write8 .F 0x10
    after s = done (s.write16 .PC 0x0103) 12 := by rfl
theorem test_V54_jp_C_a16 :
    let s := (placed 0x0100 [0xDA, 0x00, 0x02]).write8 .F 0xE0
    after s = done (s.write16 .PC 0x0103) 12 := by rfl
theorem test_V55_jp_HL :
    let s := (placed 0x0100 [0xE9]).write16 .HL 0x4000
    after s = done (s.write16 .PC 0x4000) 4 := by rfl
theorem test_V57_jr_e8 :
    let s := placed 0x0200 [0x18, 0xFB]
    after s = done (s.write16 .PC 0x01FD) 12 := by rfl
theorem test_V61_jr_e8 :
    let s := placed 0x0005 [0x18, 0x80]
    after s = done (s.write16 .PC 0xFF87) 12 := by rfl
theorem test_V63_jr_NZ_e8 :
    let s := (placed 0x0010 [0x20, 0xFE]).write8 .F 0x00
    after s = done (s.write16 .PC 0x0010) 12 := by rfl
theorem test_V64_jr_NZ_e8 :
    let s := (placed 0x0010 [0x20, 0xFE]).write8 .F 0x80
    after s = done (s.write16 .PC 0x0012) 8 := by rfl
theorem test_V65_jr_Z_e8 :
    let s := (placed 0x0100 [0x28, 0x10]).write8 .F 0x80
    after s = done (s.write16 .PC 0x0112) 12 := by rfl
theorem test_V66_jr_NC_e8 :
    let s := (placed 0x0100 [0x30, 0x10]).write8 .F 0x10
    after s = done (s.write16 .PC 0x0102) 8 := by rfl
theorem test_V67_jr_C_e8 :
    let s := (placed 0x0100 [0x38, 0x10]).write8 .F 0x10
    after s = done (s.write16 .PC 0x0112) 12 := by rfl
theorem test_V69_call_a16 :
    let s := (placed 0x0200 [0xCD, 0x00, 0x40]).write16 .SP 0x0001
    after s = done ((((s.write16 .SP 0xFFFF).busWrite 0xFFFF 0x03).busWrite 0x0000 0x02).write16 .PC 0x4000) 24 := by rfl
theorem test_V72_call_a16 :
    let s := (placed 0xFFFE [0xCD, 0x00, 0x40]).write16 .SP 0xD000
    after s = done ((((s.write16 .SP 0xCFFE).busWrite 0xCFFE 0x01).busWrite 0xCFFF 0x00).write16 .PC 0x4000) 24 := by rfl
theorem test_V73_call_NZ_a16 :
    let s := ((placed 0x0150 [0xC4, 0x00, 0x30]).write16 .SP 0xD000).write8 .F 0x00
    after s = done ((((s.write16 .SP 0xCFFE).busWrite 0xCFFE 0x53).busWrite 0xCFFF 0x01).write16 .PC 0x3000) 24 := by rfl
theorem test_V74_call_NZ_a16 :
    let s := ((placed 0x0150 [0xC4, 0x00, 0x30]).write16 .SP 0xD000).write8 .F 0x80
    after s = done (s.write16 .PC 0x0153) 12 := by rfl
theorem test_V75_call_Z_a16 :
    let s := ((placed 0x0150 [0xCC, 0x00, 0x30]).write16 .SP 0xD000).write8 .F 0x80
    after s = done ((((s.write16 .SP 0xCFFE).busWrite 0xCFFE 0x53).busWrite 0xCFFF 0x01).write16 .PC 0x3000) 24 := by rfl
theorem test_V76_call_NC_a16 :
    let s := ((placed 0x0150 [0xD4, 0x00, 0x30]).write16 .SP 0xD000).write8 .F 0x10
    after s = done (s.write16 .PC 0x0153) 12 := by rfl
theorem test_V77_call_C_a16 :
    let s := ((placed 0x0150 [0xDC, 0x00, 0x30]).write16 .SP 0xD000).write8 .F 0x10
    after s = done ((((s.write16 .SP 0xCFFE).busWrite 0xCFFE 0x53).busWrite 0xCFFF 0x01).write16 .PC 0x3000) 24 := by rfl
theorem test_V78_rst_28 :
    let s := (placed 0x0123 [0xEF]).write16 .SP 0xFFFE
    after s = done ((((s.write16 .SP 0xFFFC).busWrite 0xFFFC 0x24).busWrite 0xFFFD 0x01).write16 .PC 0x0028) 16 := by rfl
theorem test_V79_rst_00 :
    let s := (placed 0x0123 [0xC7]).write16 .SP 0xFFFE
    after s = done ((((s.write16 .SP 0xFFFC).busWrite 0xFFFC 0x24).busWrite 0xFFFD 0x01).write16 .PC 0x0000) 16 := by rfl
theorem test_V80_rst_38 :
    let s := (placed 0xFFFF [0xFF]).write16 .SP 0xD000
    after s = done ((((s.write16 .SP 0xCFFE).busWrite 0xCFFE 0x00).busWrite 0xCFFF 0x00).write16 .PC 0x0038) 16 := by rfl
theorem test_V81_rst_08 :
    let s := (placed 0x0100 [0xCF]).write16 .SP 0xD000
    after s = done ((((s.write16 .SP 0xCFFE).busWrite 0xCFFE 0x01).busWrite 0xCFFF 0x01).write16 .PC 0x0008) 16 := by rfl
theorem test_V82_rst_10 :
    let s := (placed 0x0100 [0xD7]).write16 .SP 0xD000
    after s = done ((((s.write16 .SP 0xCFFE).busWrite 0xCFFE 0x01).busWrite 0xCFFF 0x01).write16 .PC 0x0010) 16 := by rfl
theorem test_V83_rst_18 :
    let s := (placed 0x0100 [0xDF]).write16 .SP 0xD000
    after s = done ((((s.write16 .SP 0xCFFE).busWrite 0xCFFE 0x01).busWrite 0xCFFF 0x01).write16 .PC 0x0018) 16 := by rfl
theorem test_V84_rst_20 :
    let s := (placed 0x0100 [0xE7]).write16 .SP 0xD000
    after s = done ((((s.write16 .SP 0xCFFE).busWrite 0xCFFE 0x01).busWrite 0xCFFF 0x01).write16 .PC 0x0020) 16 := by rfl
theorem test_V85_rst_30 :
    let s := (placed 0x0100 [0xF7]).write16 .SP 0xD000
    after s = done ((((s.write16 .SP 0xCFFE).busWrite 0xCFFE 0x01).busWrite 0xCFFF 0x01).write16 .PC 0x0030) 16 := by rfl
theorem test_V87_push_DE :
    let s := ((placed 0x0100 [0xD5]).write16 .DE 0xBEEF).write16 .SP 0xD000
    after s = done ((((s.write16 .SP 0xCFFE).busWrite 0xCFFE 0xEF).busWrite 0xCFFF 0xBE).write16 .PC 0x0101) 16 := by rfl
theorem test_V88_push_HL :
    let s := ((placed 0x0100 [0xE5]).write16 .HL 0xC0DE).write16 .SP 0xD000
    after s = done ((((s.write16 .SP 0xCFFE).busWrite 0xCFFE 0xDE).busWrite 0xCFFF 0xC0).write16 .PC 0x0101) 16 := by rfl
theorem test_V89_push_AF :
    let s := (((placed 0x0100 [0xF5]).write8 .A 0x01).write8 .F 0xB0).write16 .SP 0xFFFE
    after s = done ((((s.write16 .SP 0xFFFC).busWrite 0xFFFC 0xB0).busWrite 0xFFFD 0x01).write16 .PC 0x0101) 16 := by rfl
theorem test_V90_push_BC :
    let s := ((placed 0x0100 [0xC5]).write16 .BC 0xAA55).write16 .SP 0x0001
    after s = done ((((s.write16 .SP 0xFFFF).busWrite 0xFFFF 0x55).busWrite 0x0000 0xAA).write16 .PC 0x0101) 16 := by rfl
theorem test_V92_nop :
    let s := placed 0xFFFF [0x00]
    after s = done (s.write16 .PC 0x0000) 4 := by rfl
theorem test_V93_inc_A :
    let s := (placed 0x0010 [0x3C]).write8 .A 0x01
    after s = ((s.write16 .PC 0x0010).raise (.unimplementedMnemonic 0x0010 false 0x3C)) := by rfl
theorem test_V94_halt :
    let s := placed 0x0100 [0x76]
    after s = ((s.write16 .PC 0x0100).raise (.unimplementedMnemonic 0x0100 false 0x76)) := by rfl
theorem test_V95_add_SP_e8 :
    let s := (placed 0x0100 [0xE8, 0x01]).write16 .SP 0xD000
    after s = ((s.write16 .PC 0x0100).raise (.unimplementedMnemonic 0x0100 false 0xE8)) := by rfl
theorem test_V96_ret :
    let s := (placed 0x0100 [0xC9]).write16 .SP 0xCFFE
    after s = ((s.write16 .PC 0x0100).raise (.unimplementedMnemonic 0x0100 false 0xC9)) := by rfl
theorem test_V99_stop_n8 :
    let s := placed 0x0000 [0x10, 0x00]
    after s = ((s.write16 .PC 0x0000).raise (.unimplementedMnemonic 0x0000 false 0x10)) := by rfl
theorem test_V101_cb_CB :
    let s := placed 0x0100 [0xCB, 0xCB]
    after s = ((s.write16 .PC 0x0100).raise (.unimplementedMnemonic 0x0100 true 0xCB)) := by rfl
theorem test_V102_cb_37 :
    let s := placed 0xFFFF [0xCB, 0x37]
    after s = ((s.write16 .PC 0xFFFF).raise (.unimplementedMnemonic 0xFFFF true 0x37)) := by rfl
theorem test_V103_illegal_D3 :
    let s := placed 0x0005 [0xD3]
    after s = ((s.write16 .PC 0x0005).takeStop .halted (.illegalOpcode 0x0005 0xD3) (.ok ⟨0, true⟩)) := by rfl
theorem test_V104_illegal_FD :
    let s := ((placed 0x0100 [0xFD]).write8 .A 0x12).write16 .SP 0xD000
    after s = ((s.write16 .PC 0x0100).takeStop .halted (.illegalOpcode 0x0100 0xFD) (.ok ⟨0, true⟩)) := by rfl

/-! ## Witnesses: a concrete state and operands for the hypotheses of each statement that has any -/

/-- DecodeOfEncode. -/
theorem witness_DecodeOfEncode : Instr.wellFormed (.ld_A_n8 0x42) = true := by decide

/-- DecoderKeyIsTwoStepFetch, first clause. -/
theorem witness_DecoderKeyIsTwoStepFetch_plain : (placed 0 [0x3E]).busRead (placed 0 [0x3E]).pc ≠ 0xCB := by decide

/-- DecoderKeyIsTwoStepFetch, second clause, the second byte at address 0. -/
theorem witness_DecoderKeyIsTwoStepFetch_prefixed :
    (placed 0xFFFF [0xCB, 0xCB]).busRead (placed 0xFFFF [0xCB, 0xCB]).pc = 0xCB := by rfl

/-- FlagAccessorsTouchOneBit: another flag exists. -/
theorem witness_FlagAccessorsTouchOneBit : Flag.N ≠ Flag.Z := by decide

/-- BusReadSeesLastWrite. -/
theorem witness_BusReadSeesLastWrite : (placed 0 [0x00]).mem.wf = true := by rfl

/-- Word16AccessIsLittleEndian. -/
theorem witness_Word16AccessIsLittleEndian : (placed 0xFFFF [0x08, 0xFF, 0xFF]).mem.wf = true := by rfl

/-- LdRegToHLStores. -/
theorem witness_LdRegToHLStores : ((placed 0x0100 [0x77]).write16 .HL 0x0100).mem.wf = true := by rfl

/-- LdImmToHLStores. -/
theorem witness_LdImmToHLStores : ((placed 0x0100 [0x36, 0x99]).write16 .HL 0x0101).mem.wf = true := by rfl

/-- LdAToPairAddressStores. -/
theorem witness_LdAToPairAddressStores : ((placed 0x0100 [0x02]).write16 .BC 0xFFFF).mem.wf = true := by rfl

/-- LdAToHLAdjustsAfterStore. -/
theorem witness_LdAToHLAdjustsAfterStore : ((placed 0x0100 [0x22]).write16 .HL 0xFFFF).mem.wf = true := by rfl

/-- LdAToAbsoluteStores. -/
theorem witness_LdAToAbsoluteStores : (placed 0xFFFE [0xEA, 0x00, 0x00]).mem.wf = true := by rfl

/-- LdSPToAbsoluteStores. -/
theorem witness_LdSPToAbsoluteStores : (placed 0x0100 [0x08, 0xFF, 0xFF]).mem.wf = true := by rfl

/-- LdhStoresToHighPage. -/
theorem witness_LdhStoresToHighPage : (placed 0x0100 [0xE0, 0xFF]).mem.wf = true := by rfl

/-- CallPushesReturnAddress. -/
theorem witness_CallPushesReturnAddress : ((placed 0xFFFE [0xCD, 0x00, 0x40]).write16 .SP 0x0001).mem.wf = true := by rfl

/-- CallConditionalPushesWhenTaken. -/
theorem witness_CallConditionalPushesWhenTaken : ((placed 0x0150 [0xC4, 0x00, 0x30]).write16 .SP 0x0000).mem.wf = true := by rfl

/-- RstPushesAndVectors. -/
theorem witness_RstPushesAndVectors : ((placed 0xFFFF [0xFF]).write16 .SP 0x0001).mem.wf = true := by rfl

/-- PushStoresPair. -/
theorem witness_PushStoresPair : ((placed 0x0100 [0xF5]).write16 .SP 0x0001).mem.wf = true := by rfl

/-- StoreIncrementThenDecrementRestoresHL. -/
theorem witness_StoreIncrementThenDecrementRestoresHL : ((placed 0x0100 [0x22, 0x32]).write16 .HL 0xFFFF).mem.wf = true := by rfl

/-- PowerOnLeavesResetState. -/
theorem witness_PowerOnLeavesResetState :
    (⟨[0x3E, 0x42], 1, 2, 3, 4, 5, 6, 7, true, false, true, false, 0xFFFE, [(0xC000, 0x77)]⟩ : ResetParams).image.length
      ≤ 65536 := by decide

/-- OversizedImageIsRefused: the default catalog and an image one byte too long. -/
theorem witness_OversizedImageIsRefused :
    defaultCatalog.firstBad = none ∧
      65536 < (⟨List.replicate 65537 0, 0, 0, 0, 0, 0, 0, 0, false, false, false, false, 0, []⟩ : ResetParams).image.length :=
  ⟨by decide +kernel, by rw [List.length_replicate]; decide⟩

/-- StepRunsTheDecodedInstruction. -/
theorem witness_StepRunsTheDecodedInstruction :
    let s := placed 0xFFFF [0x3E, 0x42]
    s.run = .running ∧
      decode [s.busRead s.pc, s.busRead (s.pc + 1), s.busRead (s.pc + 2)] = .ok (.ld_A_n8 0x42, [0x00]) :=
  ⟨rfl, rfl⟩

/-- StepOutcomesAreClassified, the three outcomes. -/
theorem witness_StepOutcomesAreClassified :
    (placed 0 [0xD3]).run = .running ∧
      (defaultCatalog (placed 0 [0xD3]).fetchKey.1 (placed 0 [0xD3]).fetchKey.2).mnemonic = .ILLEGAL ∧
      (defaultCatalog (placed 0 [0x76]).fetchKey.1 (placed 0 [0x76]).fetchKey.2).mnemonic = .HALT ∧
      (defaultCatalog (placed 0 [0x77]).fetchKey.1 (placed 0 [0x77]).fetchKey.2).mnemonic = .LD :=
  ⟨rfl, rfl, rfl, rfl⟩

/-- StoppedCoreIsInert, both clauses. -/
theorem witness_StoppedCoreIsInert :
    (after (placed 0 [0xD3])).run = .halted ∧ (after (placed 0 [0x3C])).run = .faulted := ⟨rfl, rfl⟩

/-- InvariantHoldsAtReset supplies the state of StepKeepsInvariant; this is its other hypothesis, and the invariant of a state
that is not the reset state. -/
theorem witness_StepKeepsInvariant :
    (placed 0x0100 [0xC5]).Inv ∧ step (placed 0x0100 [0xC5]) = .next (after (placed 0x0100 [0xC5])) :=
  ⟨⟨rfl, rfl, rfl, .inl rfl⟩, rfl⟩

/-- A halted and a faulted state with the invariant. -/
theorem witness_StepKeepsInvariant_stopped : (after (placed 0 [0xD3])).Inv ∧ (after (placed 0 [0xCB, 0x7C])).Inv :=
  ⟨⟨rfl, rfl, rfl, rfl, rfl⟩, ⟨rfl, rfl, rfl, rfl, rfl, by decide⟩⟩

/-- A catalog whose `LD` at 0x00 has no operands. -/
def badCatalog : Catalog := fun _ _ => Catalog.exe .LD 1 [4] []

/-- OperandShapeViolationFaults, the three clauses. -/
theorem witness_OperandShapeViolationFaults :
    State.reset.run = .running ∧
      (badCatalog State.reset.fetchKey.1 State.reset.fetchKey.2).mnemonic.modeled = true ∧
      shapeOk (badCatalog State.reset.fetchKey.1 State.reset.fetchKey.2).mnemonic
        (badCatalog State.reset.fetchKey.1 State.reset.fetchKey.2).operands = false ∧
      (defaultCatalog State.reset.fetchKey.1 State.reset.fetchKey.2).mnemonic.modeled = true ∧
      shapeOk (defaultCatalog State.reset.fetchKey.1 State.reset.fetchKey.2).mnemonic
        (defaultCatalog State.reset.fetchKey.1 State.reset.fetchKey.2).operands = true :=
  ⟨rfl, rfl, rfl, rfl, rfl⟩

/-- A catalog whose `RST` has a vector that is none of the default eight (R83, R143). -/
def vectorCatalog : Catalog := fun _ _ => Catalog.exe .RST 1 [16] [.vec 0x0040]

theorem test_engine_takes_any_restart_vector :
    (stepWith vectorCatalog (placed 0x0123 [0xEF])).pc = 0x0040 ∧
      (stepWith vectorCatalog (placed 0x0123 [0xEF])).busRead16 0xFFFE = 0x0124 := ⟨rfl, rfl⟩

theorem test_shape_refuses_vec_deref : isVec ⟨.vec 0x0008, true, .none⟩ = false := by decide

/-- NopAdvancesOnly, the last clause. -/
theorem witness_NopAdvancesOnly :
    (placed 0xFFFF [0x00]).run = .running ∧ (placed 0xFFFF [0x00]).busRead (placed 0xFFFF [0x00]).pc = 0x00 :=
  ⟨rfl, rfl⟩

/-- StepWritesOnlyItsAccesses: a push. -/
theorem witness_StepWritesOnlyItsAccesses :
    step (placed 0 [0xC5]) = .next (after (placed 0 [0xC5])) ∧
      stepAccesses (placed 0 [0xC5]) = [.fetch 0, .write 0xFFFE 0, .write 0xFFFF 0] := ⟨rfl, rfl⟩

/-- StepDependsOnlyOnWhatItReads: `LD A,(0xC000)` in two states that differ at 0xD000. -/
theorem witness_StepDependsOnlyOnWhatItReads :
    let s := placed 0 [0xFA, 0x00, 0xC0]
    let m : Memory := [(0, 0xFA), (2, 0xC0), (0xD000, 0x55)]
    step s = .next (after s) ∧
      stepAccesses s = [.fetch 0, .fetch 1, .fetch 2, .read 0xC000] ∧
      (∀ a : Word, readsAddr (stepAccesses s) a = true → ({ s with mem := m } : State).busRead a = s.busRead a) := by
  refine ⟨rfl, rfl, ?_⟩
  intro a h
  have h' : readsAddr [.fetch 0, .fetch 1, .fetch 2, .read 0xC000] a = true := h
  simp only [readsAddr, List.contains_eq_mem, List.mem_cons, List.not_mem_nil, or_false, Access.fetch.injEq,
    Access.read.injEq, reduceCtorEq, false_or, Bool.or_eq_true, decide_eq_true_eq] at h'
  rcases h' with (rfl | rfl | rfl) | rfl <;> rfl

/-- OnlyLdHLSPe8WritesFlags. -/
theorem witness_OnlyLdHLSPe8WritesFlags :
    exec .nop State.reset = .next (done (State.reset.write16 .PC 1) 4) ∧ ∀ e8, Instr.nop ≠ .ld_HL_SPe8 e8 :=
  ⟨rfl, fun _ h => by cases h⟩

/-- StackPointerMovesOnlyByPushOrLoad: a push, a load and neither. -/
theorem witness_StackPointerMovesOnlyByPushOrLoad :
    (∃ t, exec .rst_38 State.reset = .next t ∧ t.sp = 0xFFFE) ∧ (∃ t, exec (.ld_SP_n16 5) State.reset = .next t ∧ t.sp = 5) ∧
      (∃ t, exec .nop State.reset = .next t ∧ t.sp = 0) :=
  ⟨⟨_, rfl, rfl⟩, ⟨_, rfl, rfl⟩, ⟨_, rfl, rfl⟩⟩

/-- ParkedCoreStaysParked, by its three jumps. -/
theorem witness_ParkedCoreStaysParked :
    (placed 0x000F [0x18, 0xFE]).parked = true ∧ (placed 0x0100 [0xC3, 0x00, 0x01]).parked = true ∧
      ((placed 0x0100 [0xE9]).write16 .HL 0x0100).parked = true := ⟨rfl, rfl, rfl⟩

/-- SelfOverwritingStoreRunsAsFetched. -/
theorem witness_SelfOverwritingStoreRunsAsFetched :
    let s := (placed 0x0100 [0x77]).write16 .HL 0x0100
    s.mem.wf = true ∧ s.run = .running ∧ s.busRead s.pc = 0x77 ∧ s.read16 .HL = s.pc := ⟨rfl, rfl, rfl, rfl⟩

/-- LdPairImmLoads: a destination that is not `SP`. -/
theorem witness_LdPairImmLoads : PairSP.BC ≠ PairSP.SP := by decide

/-- PrefixEntryIsNeverDecoded, second clause. -/
theorem witness_PrefixEntryIsNeverDecoded : decode [0xCB, 0x00, 0x47] = .ok (.rlc .B, [0x47]) := by rfl

end Sys2Proof.Tests
end
end

section
/-! PROOFS. What every instruction can do, said once (`exec_ran`), and the statements about the state that follow from
it: the invariant (O20), who writes flags (O25), who moves `SP` (O26). -/

namespace Sys2Proof

/-! ## Catalog entries and keys -/

/-- A prefixed entry is no modeled family and not illegal (30_encoding.md R63). -/
theorem cbPrefixed_unmodeled (opcode : Byte) :
    (Catalog.cbPrefixed opcode).mnemonic.modeled = false ∧ (Catalog.cbPrefixed opcode).mnemonic ≠ .ILLEGAL := by
  unfold Catalog.cbPrefixed Catalog.shiftMnemonic
  split
  · dsimp only [Catalog.other]
    split <;> exact ⟨rfl, nofun⟩
  all_goals exact ⟨rfl, nofun⟩

/-- The key of an unprefixed instruction is its first byte (30_encoding.md R58). -/
theorem key_of_first_byte {i : Instr} {b0 : Byte} {rest : List Byte} (h : encode i = b0 :: rest) (hb : b0 ≠ 0xCB) :
    i.key = (false, b0) := by
  unfold Instr.key
  rw [h]
  cases rest with
  | nil => rfl
  | cons b1 _ => exact if_neg hb

/-- The catalog entry of an unprefixed instruction is that of its first byte. -/
theorem spec_of_first_byte {i : Instr} {b0 : Byte} {rest : List Byte} (h : encode i = b0 :: rest) (hb : b0 ≠ 0xCB) :
    i.spec = Catalog.unprefixed b0 := by
  unfold Instr.spec
  rw [key_of_first_byte h hb]
  rfl

/-- The fields of a byte make it up again (30_encoding.md R52). -/
theorem byteXYZ_fields (v : Byte) : byteXYZ (fieldX v) (fieldY v) (fieldZ v) = v := by
  revert v; decide

/-- The code of the operand a code names is that code (30_encoding.md R53). -/
theorem code_operand8 (z : BitVec 3) : (Catalog.operand8 z).code = z := by
  revert z; decide

/-- A prefixed opcode encodes back to its two bytes (30_encoding.md R63). -/
theorem encode_decodeCB (b1 : Byte) : encode (decodeCB b1) = [0xCB, b1] := by
  have prefixed (x : BitVec 2) (y : BitVec 3) (hx : fieldX b1 = x) (hy : fieldY b1 = y) :
      prefixedWord x y (Catalog.operand8 (fieldZ b1)) = [0xCB, b1] := by
    rw [prefixedWord, code_operand8, ← hx, ← hy, byteXYZ_fields]
  have hX : fieldX b1 = 0 ∨ fieldX b1 = 1 ∨ fieldX b1 = 2 ∨ fieldX b1 = 3 := by
    generalize fieldX b1 = x
    revert x; decide
  unfold decodeCB
  rcases hX with hx | hx | hx | hx
  · rcases field3_cases (fieldY b1) with hy | hy | hy | hy | hy | hy | hy | hy <;>
      · rw [hx, hy]
        exact prefixed _ _ hx hy
  all_goals
    rw [hx]
    exact prefixed _ _ hx rfl

/-- Behind `0xCB` the key is the second byte (40_step_decode_resolve.md R72). -/
theorem decode3_key_prefixed (b1 b2 : Byte) : (decode3 0xCB b1 b2).key = (true, b1) := by
  show (decodeCB b1).key = _
  unfold Instr.key
  rw [encode_decodeCB]
  rfl

/-- The key of what three bytes decode to: the first byte, or the one behind `0xCB` (40_step_decode_resolve.md R72). -/
theorem decode3_key (b0 b1 b2 : Byte) :
    (decode3 b0 b1 b2).key = if b0 = 0xCB then (true, b1) else (false, b0) := by
  induction b0 using byte_by_nibbles with
  | h hi lo =>
    rcases nibble_cases hi with rfl | rfl | rfl | rfl | rfl | rfl | rfl | rfl | rfl | rfl | rfl | rfl | rfl | rfl | rfl
      | rfl <;>
    rcases nibble_cases lo with rfl | rfl | rfl | rfl | rfl | rfl | rfl | rfl | rfl | rfl | rfl | rfl | rfl | rfl | rfl
      | rfl <;>
    try rfl
    -- left over: `0xCB`, behind which `b1` is the opcode
    exact decode3_key_prefixed b1 b2

end Sys2Proof

namespace Sys2Proof.Machine

/-! ## What an instruction does -/

/-- `i` changes the data of `s` to those of the third argument, before its commit: one constructor per kind of effect the
executed instructions have. -/
inductive Effect (s : State) : Instr → State → Prop
  | nothing (i : Instr) : Effect s i s
  | load (i : Instr) (r : Reg8) (v : Byte) (notF : r ≠ .F) : Effect s i (s.write8 r v)
  | store (i : Instr) (a : Word) (v : Byte) : Effect s i (s.busWrite a v)
  | adjust {i : Instr} {u : State} (adj : Adjust) (before : Effect s i u) : Effect s i (u.adjustHL adj)
  | loadPair (i : Instr) (p : Reg16) (v : Word) (isPair : p = .BC ∨ p = .DE ∨ p = .HL) : Effect s i (s.write16 p v)
  | loadSP (n16 : Word) : Effect s (.ld_SP_n16 n16) (s.write16 .SP n16)
  | copyHLToSP : Effect s .ld_SP_HL (s.write16 .SP (s.read16 .HL))
  | storeSP (i : Instr) (a v : Word) : Effect s i (s.busWrite16 a v)
  | addToSP (e8 : Byte) :
      Effect s (.ld_HL_SPe8 e8) ((s.write16 .HL (s.sp + sext16 e8)).flagsSPe8 s.sp e8)
  | push {i : Instr} (v : Word)
      (family : i.spec.mnemonic = .PUSH ∨ i.spec.mnemonic = .CALL ∨ i.spec.mnemonic = .RST) : Effect s i (s.push16 v)

/-- `i` takes `s` to the third argument, in one of the three ways of 60_exceptions.md R160: it completes at a cost of its
catalog entry, it halts the core as illegal, or it faults as unimplemented. -/
inductive Ran (i : Instr) (s : State) : State → Prop
  | completes {u : State} {nextPc : Word} {cycles : Nat} (modeled : i.spec.mnemonic.modeled = true)
      (cost : cycles ∈ i.spec.cycles) (effect : Effect s i u) : Ran i s (u.commit nextPc cycles)
  | halts (unprefixed : i.key.1 = false) (illegal : i.spec.mnemonic = .ILLEGAL) : Ran i s (s.haltIllegal i.key.2)
  | faults (unmodeled : i.spec.mnemonic.modeled = false ∧ i.spec.mnemonic ≠ .ILLEGAL) :
      Ran i s (s.raiseUnimplemented i.key.1 i.key.2)

/-- A conditional instruction runs in one of the ways its two branches do. -/
theorem Ran.ite {i : Instr} {s t u : State} {taken : Bool} (ht : Ran i s t) (hu : Ran i s u) :
    Ran i s (if taken then t else u) := by
  split
  · exact ht
  · exact hu

section
variable {i : Instr} {s : State} {b0 : Byte} {rest : List Byte}

/-- `Ran.completes` by the catalog entry of the first byte. -/
theorem Ran.of_commit {u : State} {nextPc : Word} {cycles : Nat} (enc : encode i = b0 :: rest)
    (entry : b0 ≠ 0xCB ∧ (Catalog.unprefixed b0).mnemonic.modeled = true ∧ cycles ∈ (Catalog.unprefixed b0).cycles)
    (effect : Effect s i u) : Ran i s (u.commit nextPc cycles) := by
  obtain ⟨hb, modeled, cost⟩ := entry
  rw [← spec_of_first_byte enc hb] at modeled cost
  exact .completes modeled cost effect

/-- `Ran.completes` of an instruction that pushes, by the catalog entry of the first byte. -/
theorem Ran.of_push {v nextPc : Word} {cycles : Nat} (enc : encode i = b0 :: rest)
    (entry : b0 ≠ 0xCB ∧ (Catalog.unprefixed b0).mnemonic.modeled = true ∧ cycles ∈ (Catalog.unprefixed b0).cycles)
    (family : (Catalog.unprefixed b0).mnemonic = .PUSH ∨ (Catalog.unprefixed b0).mnemonic = .CALL
      ∨ (Catalog.unprefixed b0).mnemonic = .RST) :
    Ran i s ((s.push16 v).commit nextPc cycles) := by
  rw [← spec_of_first_byte enc entry.1] at family
  exact .of_commit enc entry (.push v family)

/-- `Ran.halts` by the catalog entry of the first byte. -/
theorem Ran.of_haltIllegal (enc : encode i = b0 :: rest)
    (entry : b0 ≠ 0xCB ∧ (Catalog.unprefixed b0).mnemonic = .ILLEGAL) : Ran i s (s.haltIllegal b0) := by
  obtain ⟨hb, illegal⟩ := entry
  have hk := key_of_first_byte enc hb
  rw [← spec_of_first_byte enc hb] at illegal
  simpa only [hk] using Ran.halts (s := s) (congrArg Prod.fst hk) illegal

/-- `Ran.faults` by the catalog entry of the first byte. -/
theorem Ran.of_unimplemented (enc : encode i = b0 :: rest)
    (entry : b0 ≠ 0xCB ∧ (Catalog.unprefixed b0).mnemonic.modeled = false
      ∧ (Catalog.unprefixed b0).mnemonic ≠ .ILLEGAL) :
    Ran i s (s.raiseUnimplemented false b0) := by
  obtain ⟨hb, unmodeled⟩ := entry
  rw [← spec_of_first_byte enc hb] at unmodeled
  simpa only [key_of_first_byte enc hb] using Ran.faults (s := s) unmodeled

end

/-- Every instruction answers a next state and gets there in one of the three ways; the cases are the shared operations
of the instruction rules R90 to R155, what is left at the end the unprefixed rows of R61. -/
theorem exec_ran (i : Instr) (s : State) : ∃ t, exec i s = .next t ∧ Ran i s t := by
  cases i
  case ld_B_B | ld_B_C | ld_B_D | ld_B_E | ld_B_H | ld_B_L | ld_B_A | ld_C_B | ld_C_C | ld_C_D | ld_C_E |
      ld_C_H | ld_C_L | ld_C_A | ld_D_B | ld_D_C | ld_D_D | ld_D_E | ld_D_H | ld_D_L | ld_D_A | ld_E_B |
      ld_E_C | ld_E_D | ld_E_E | ld_E_H | ld_E_L | ld_E_A | ld_H_B | ld_H_C | ld_H_D | ld_H_E | ld_H_H |
      ld_H_L | ld_H_A | ld_L_B | ld_L_C | ld_L_D | ld_L_E | ld_L_H | ld_L_L | ld_L_A | ld_A_B | ld_A_C |
      ld_A_D | ld_A_E | ld_A_H | ld_A_L | ld_A_A =>
    exact ⟨_, ldRR_eq .., .of_commit rfl (by decide) (.load _ _ _ nofun)⟩
  case ld_B_mHL | ld_C_mHL | ld_D_mHL | ld_E_mHL | ld_H_mHL | ld_L_mHL | ld_A_mHL =>
    exact ⟨_, ldRmHL_eq .., .of_commit rfl (by decide) (.load _ _ _ nofun)⟩
  case ld_mHL_B | ld_mHL_C | ld_mHL_D | ld_mHL_E | ld_mHL_H | ld_mHL_L | ld_mHL_A =>
    exact ⟨_, ldmHLR_eq .., .of_commit rfl (by decide) (.store ..)⟩
  case ld_B_n8 | ld_C_n8 | ld_D_n8 | ld_E_n8 | ld_H_n8 | ld_L_n8 | ld_A_n8 =>
    exact ⟨_, ldRn8_eq .., .of_commit rfl (by decide) (.load _ _ _ nofun)⟩
  case ld_mHL_n8 =>
    exact ⟨_, ldmHLn8_eq .., .of_commit rfl (by decide) (.store ..)⟩
  case ld_mBC_A | ld_mDE_A | ld_mHLi_A | ld_mHLd_A =>
    exact ⟨_, ldmPairA_eq .., .of_commit rfl (by decide) (.adjust _ (.store ..))⟩
  case ld_A_mBC | ld_A_mDE | ld_A_mHLi | ld_A_mHLd =>
    exact ⟨_, ldAmPair_eq .., .of_commit rfl (by decide) (.adjust _ (.load _ _ _ nofun))⟩
  case ld_ma16_A =>
    exact ⟨_, ldma16A_eq .., .of_commit rfl (by decide) (.store ..)⟩
  case ld_A_ma16 =>
    exact ⟨_, ldAma16_eq .., .of_commit rfl (by decide) (.load _ _ _ nofun)⟩
  case ld_BC_n16 | ld_DE_n16 | ld_HL_n16 =>
    exact ⟨_, ldR16n16_eq .., .of_commit rfl (by decide) (.loadPair _ _ _ (by decide))⟩
  case ld_SP_n16 =>
    exact ⟨_, ldR16n16_eq .., .of_commit rfl (by decide) (.loadSP _)⟩
  case ld_ma16_SP =>
    exact ⟨_, ldma16SP_eq .., .of_commit rfl (by decide) (.storeSP ..)⟩
  case ld_SP_HL =>
    exact ⟨_, ldSPHL_eq s, .of_commit rfl (by decide) .copyHLToSP⟩
  case ld_HL_SPe8 =>
    exact ⟨_, ldHLSPe8_eq .., .of_commit rfl (by decide) (.addToSP _)⟩
  case ldh_ma8_A | ldh_mC_A =>
    exact ⟨_, ldhStore_eq .., .of_commit rfl (by decide) (.store ..)⟩
  case ldh_A_ma8 | ldh_A_mC =>
    exact ⟨_, ldhLoad_eq .., .of_commit rfl (by decide) (.load _ _ _ nofun)⟩
  case nop =>
    exact ⟨_, rfl, .of_commit rfl (by decide) (.nothing _)⟩
  case jp_a16 =>
    exact ⟨_, jpA16_eq .., .of_commit rfl (by decide) (.nothing _)⟩
  case jp_HL =>
    exact ⟨_, jpHL_eq s, .of_commit rfl (by decide) (.nothing _)⟩
  case jr_e8 =>
    exact ⟨_, jrE8_eq .., .of_commit rfl (by decide) (.nothing _)⟩
  case jp_NZ_a16 | jp_Z_a16 | jp_NC_a16 | jp_C_a16 =>
    exact ⟨_, jpCC_eq .., .ite (.of_commit rfl (by decide) (.nothing _)) (.of_commit rfl (by decide) (.nothing _))⟩
  case jr_NZ_e8 | jr_Z_e8 | jr_NC_e8 | jr_C_e8 =>
    exact ⟨_, jrCC_eq .., .ite (.of_commit rfl (by decide) (.nothing _)) (.of_commit rfl (by decide) (.nothing _))⟩
  case call_a16 =>
    exact ⟨_, callA16_eq .., .of_push rfl (by decide) (by decide)⟩
  case call_NZ_a16 | call_Z_a16 | call_NC_a16 | call_C_a16 =>
    exact ⟨_, callCC_eq .., .ite (.of_push rfl (by decide) (by decide)) (.of_commit rfl (by decide) (.nothing _))⟩
  case rst_00 | rst_08 | rst_10 | rst_18 | rst_20 | rst_28 | rst_30 | rst_38 =>
    exact ⟨_, rstVec_eq .., .of_push rfl (by decide) (by decide)⟩
  case push_BC | push_DE | push_HL | push_AF =>
    exact ⟨_, pushPair_eq .., .of_push rfl (by decide) (by decide)⟩
  case rlc | rrc | rl | rr | sla | sra | swap | srl | bit | res | set =>
    exact ⟨_, rfl, .faults (cbPrefixed_unmodeled _)⟩
  case prefixCB =>
    exact ⟨_, rfl, .faults ⟨rfl, nofun⟩⟩
  case illegal_D3 | illegal_DB | illegal_DD | illegal_E3 | illegal_E4 | illegal_EB | illegal_EC | illegal_ED |
      illegal_F4 | illegal_FC | illegal_FD =>
    exact ⟨_, rfl, .of_haltIllegal rfl (by decide)⟩
  all_goals exact ⟨_, rfl, .of_unimplemented rfl (by decide)⟩

/-- What an instruction answers is one of the ways it runs. -/
theorem ran_of_exec {i : Instr} {s t : State} (h : exec i s = .next t) : Ran i s t := by
  obtain ⟨t', ht', hran⟩ := exec_ran i s
  cases Answer.next_inj.mp (ht'.symm.trans h)
  exact hran

/-! ## What the effects leave alone -/

theorem State.write8_f_of_ne (s : State) {r : Reg8} (v : Byte) (h : r ≠ .F) : (s.write8 r v).f = s.f := by
  cases r
  case F => exact absurd rfl h
  all_goals rfl

namespace Effect
variable {s u : State} {i : Instr}

theorem mem_wf (h : Effect s i u) (hs : s.mem.wf = true) : u.mem.wf = true := by
  induction h with
  | store _ a v => exact State.wf_busWrite hs a v
  | storeSP _ a v => exact State.wf_busWrite16 hs a v
  | push v _ => exact State.wf_push16 hs v
  | adjust _ _ ih => simpa using ih
  | _ => simpa using hs

theorem lowF (h : Effect s i u) (hs : s.f &&& 0x0F = 0) : u.f &&& 0x0F = 0 := by
  induction h with
  | load _ r v _ => exact State.write8_lowF hs r v
  | loadPair _ p v _ => exact State.write16_lowF hs p v
  | addToSP e8 => exact State.flagsSPe8_lowF _ _ _
  | adjust _ _ ih => simpa using ih
  | _ => simpa using hs

theorem run_eq (h : Effect s i u) : u.run = s.run := by
  induction h with
  | adjust _ _ ih => simpa using ih
  | _ => simp

theorem err_eq (h : Effect s i u) : u.err = s.err := by
  induction h with
  | adjust _ _ ih => simpa using ih
  | _ => simp

/-- Only `LD HL,SP+e8` has an effect on `F` (10_state.md R17). -/
theorem f_eq (h : Effect s i u) (hi : ∀ e8, i ≠ .ld_HL_SPe8 e8) : u.f = s.f := by
  induction h with
  | load _ r v notF => exact State.write8_f_of_ne s v notF
  | loadPair _ p v isPair => rcases isPair with rfl | rfl | rfl <;> rfl
  | addToSP e8 => exact absurd rfl (hi e8)
  | adjust _ _ ih => simpa using ih hi
  | _ => simp

/-- The effects on `SP` (10_state.md R19). -/
theorem sp_cases (h : Effect s i u) :
    u.sp = s.sp ∨ (∃ n16, i = .ld_SP_n16 n16 ∧ u.sp = n16) ∨ (i = .ld_SP_HL ∧ u.sp = s.read16 .HL) ∨
    (u.sp = s.sp - 2 ∧ (i.spec.mnemonic = .PUSH ∨ i.spec.mnemonic = .CALL ∨ i.spec.mnemonic = .RST)) := by
  induction h with
  | loadSP n16 => exact .inr (.inl ⟨n16, rfl, rfl⟩)
  | copyHLToSP => exact .inr (.inr (.inl ⟨rfl, rfl⟩))
  | push v family => exact .inr (.inr (.inr ⟨rfl, family⟩))
  | loadPair _ p v isPair => rcases isPair with rfl | rfl | rfl <;> exact .inl rfl
  | adjust _ _ ih => simpa using ih
  | _ => exact .inl (by simp)

end Effect

/-! ## The invariant -/

/-- The instruction at `PC` has the key the two-step fetch finds (40_step_decode_resolve.md R72). -/
theorem State.fetchInstr_key (s : State) : s.fetchInstr.key = s.fetchKey := decode3_key _ _ _

theorem State.fetchInstr_spec (s : State) : s.fetchInstr.spec = defaultCatalog s.fetchKey.1 s.fetchKey.2 := by
  rw [Instr.spec, State.fetchInstr_key]

/-- An unprefixed key is the byte at `PC`. -/
theorem State.fetchKey_snd_of_unprefixed {s : State} (h : s.fetchKey.1 = false) : s.fetchKey.2 = s.busRead s.pc := by
  unfold State.fetchKey at h ⊢
  split at h
  · cases h
  · rw [if_neg ‹_›]

/-- A halted step of a state whose stop fields agree changes nothing: the result is already the halt. -/
theorem State.repeatHalt_of_stopAgrees {s : State} (hrun : s.run = .halted) (h : s.stopAgrees) : s.repeatHalt = s := by
  simp only [State.stopAgrees, hrun] at h
  obtain ⟨hres, -, -⟩ := h
  rw [State.repeatHalt, ← hres]

/-- A faulted step of a state whose stop fields agree changes nothing: the result is already the recorded error. -/
theorem State.repeatError_of_stopAgrees {s : State} (hrun : s.run = .faulted) (h : s.stopAgrees) :
    s.repeatError = s := by
  simp only [State.stopAgrees, hrun] at h
  obtain ⟨hres, -⟩ := h
  rw [State.repeatError, ← hres]

/-- Running the instruction at `PC` keeps the invariant.  A stop keeps `PC` and memory, so the key it records is still
the key at `PC`. -/
theorem Ran.inv {s t : State} (h : Ran s.fetchInstr s t) (hrun : s.run = .running) (hs : s.Inv) : t.Inv := by
  obtain ⟨hmem, hlow, hstops⟩ := hs
  cases h with
  | completes modeled cost effect =>
    simp only [State.stopAgrees, hrun] at hstops
    obtain ⟨herr, -⟩ := hstops
    refine ⟨effect.mem_wf hmem, effect.lowF hlow, ?_⟩
    simp only [State.stopAgrees, State.commit_run, effect.run_eq, hrun]
    exact ⟨effect.err_eq.trans herr, .inr ⟨_, rfl⟩⟩
  | halts unprefixed illegal =>
    rw [State.fetchInstr_spec] at illegal
    rw [State.fetchInstr_key] at unprefixed ⊢
    rw [State.fetchKey_snd_of_unprefixed unprefixed] at illegal ⊢
    rw [unprefixed] at illegal
    exact ⟨hmem, hlow, rfl, rfl, illegal⟩
  | faults unmodeled =>
    rw [State.fetchInstr_spec] at unmodeled
    rw [State.fetchInstr_key]
    exact ⟨hmem, hlow, rfl, rfl, unmodeled⟩

/-- Settles O20: a running step by what its instruction can do, a stopped step because it changes nothing. -/
theorem stepKeepsInvariant : Obligations.StepKeepsInvariant := by
  intro s t hs hstep
  cases hrun : s.run with
  | running =>
    rw [step_running hrun] at hstep
    exact (ran_of_exec hstep).inv hrun hs
  | halted =>
    rw [step_halted hrun, Answer.next_inj, State.repeatHalt_of_stopAgrees hrun hs.stops] at hstep
    exact hstep ▸ hs
  | faulted =>
    rw [step_faulted hrun, Answer.next_inj, State.repeatError_of_stopAgrees hrun hs.stops] at hstep
    exact hstep ▸ hs

/-- Settles O15. -/
theorem invariantHoldsAtReset : Obligations.InvariantHoldsAtReset where
  memory := rfl
  lowF := rfl
  stops := ⟨rfl, .inl rfl⟩

/-! ## Flags and `SP` -/

/-- Settles O25: of the effects only that of `LD HL,SP+e8` writes `F`, and a stop writes no register. -/
theorem onlyLdHLSPe8WritesFlags : Obligations.OnlyLdHLSPe8WritesFlags := by
  intro i s t h hi
  cases ran_of_exec h with
  | completes _ _ effect => exact effect.f_eq hi
  | halts _ _ => rfl
  | faults _ => rfl

/-- Settles O26: by the effect of a completed instruction; a stop leaves `SP`. -/
theorem stackPointerMovesOnlyByPushOrLoad : Obligations.StackPointerMovesOnlyByPushOrLoad := by
  intro i s t h
  cases ran_of_exec h with
  | completes _ _ effect => exact effect.sp_cases
  | halts _ _ => exact .inl rfl
  | faults _ => exact .inl rfl

end Sys2Proof.Machine
end

section
/-! PROOFS. The accessors of the registers and flags (O7, O8). -/

namespace Sys2Proof.Machine

/-- A pair whose read and write are those of two registers is a view of them (10_state.md R11). -/
theorem pair_is_view (p : Reg16) (hi lo : Reg8) (mask : Byte)
    (hread : ∀ s : State, s.read16 p = pair (s.read8 hi) (s.read8 lo))
    (hwrite : ∀ (s : State) (v : Word), s.write16 p v = (s.write8 hi (hiByte v)).write8 lo (loByte v))
    (hhi : hi ≠ .F) (hne : hi ≠ lo) (hmask : ∀ w : Byte, (if lo = .F then w &&& 0xF0 else w) = w &&& mask)
    (s : State) (v : Word) (w : Byte) :
    s.read16 p = pair (s.read8 hi) (s.read8 lo) ∧
    (s.write16 p v).read8 hi = hiByte v ∧
    (s.write16 p v).read8 lo = loByte v &&& mask ∧
    (s.write16 p v).sp = s.sp ∧ (s.write16 p v).pc = s.pc ∧ SameBut [hi, lo] [] s (s.write16 p v) ∧
    (s.write8 hi w).read16 p = pair w (s.read8 lo) ∧
    (s.write8 lo w).read16 p = pair (s.read8 hi) (w &&& mask) := by
  refine ⟨hread s, ?_, ?_, ?_, ?_, ⟨?_, ?_⟩, ?_, ?_⟩
  · simp [hwrite, State.read8_write8, hne, hhi]
  · rw [hwrite, State.read8_write8, if_pos rfl, hmask]
  · simp [hwrite]
  · simp [hwrite]
  · intro r hr
    obtain ⟨hrhi, hrlo⟩ : r ≠ hi ∧ r ≠ lo := by simpa using hr
    simp [hwrite, State.read8_write8, hrhi, hrlo]
  · simp
  · simp [hread, State.read8_write8, hne.symm, hhi]
  · simp only [hread, State.read8_write8, if_neg hne, if_pos, hmask]

/-- Settles O7: each of the four pairs is a view of its two halves; the mask of `AF` is that of a write to `F`. -/
theorem pairsAreViews : Obligations.PairsAreViews := by
  intro s v w p hp
  have unmasked (x : Byte) : x = x &&& 0xFF := BitVec.and_allOnes.symm
  simp only [List.mem_cons, List.not_mem_nil, or_false] at hp
  rcases hp with rfl | rfl | rfl | rfl
  · exact pair_is_view .AF .A .F 0xF0 (fun _ => rfl) (fun _ _ => rfl) nofun nofun (fun _ => rfl) s v w
  · exact pair_is_view .BC .B .C 0xFF (fun _ => rfl) (fun _ _ => rfl) nofun nofun unmasked s v w
  · exact pair_is_view .DE .D .E 0xFF (fun _ => rfl) (fun _ _ => rfl) nofun nofun unmasked s v w
  · exact pair_is_view .HL .H .L 0xFF (fun _ => rfl) (fun _ _ => rfl) nofun nofun unmasked s v w

/-- Reading a flag after a write of one (10_state.md R15). -/
theorem State.getFlag_setFlag (s : State) (fl other : Flag) (x : Bool) :
    (s.setFlag fl x).getFlag other = if other = fl then x else s.getFlag other := by
  simp only [State.getFlag, State.setFlag, State.read8_write8, if_true]
  cases fl <;> cases other <;> cases x <;> simp [keptBits, flagBit]

/-- Settles O8: a write of a flag is a write of `F`, and a flag read after it is `State.getFlag_setFlag`. -/
theorem flagAccessorsTouchOneBit : Obligations.FlagAccessorsTouchOneBit := by
  intro s fl x
  refine ⟨⟨rfl, rfl, rfl, rfl⟩, mask_low_clear s.f, ?_, ?_, SameBut.write8 s .F _, rfl, rfl⟩
  · rw [State.getFlag_setFlag, if_pos rfl]
  · intro other hother
    rw [State.getFlag_setFlag, if_neg hother]

end Sys2Proof.Machine
end

section
/-! PROOFS. Bring-up and reset (O12, O14): the default catalog passes its check, and a loaded image is what memory
reads. -/

namespace Sys2Proof

theorem cbPrefixed_wf (opcode : Byte) : (Catalog.cbPrefixed opcode).wf true opcode = true := by
  revert opcode; decide

theorem unprefixed_wf (opcode : Byte) : (Catalog.unprefixed opcode).wf false opcode = true := by
  revert opcode; decide

/-- Every entry of the default catalog is well formed (60_exceptions.md R166). -/
theorem defaultCatalog_wf (isPrefixed : Bool) (opcode : Byte) :
    (defaultCatalog isPrefixed opcode).wf isPrefixed opcode = true := by
  cases isPrefixed with
  | true => exact cbPrefixed_wf opcode
  | false => exact unprefixed_wf opcode

theorem defaultCatalog_firstBad : defaultCatalog.firstBad = none := by
  rw [Catalog.firstBad, List.find?_eq_none]
  intro k _
  simp [defaultCatalog_wf]

end Sys2Proof

namespace Sys2Proof.Machine

/-- Bring-up with the default catalog and an image that fits (70_reset_and_hazards.md R181). -/
theorem powerOn_defaultCatalog {p : ResetParams} (h : p.image.length ≤ 65536) :
    powerOn defaultCatalog p = .ok p.start := by
  rw [powerOn, defaultCatalog_firstBad]
  exact if_neg (Nat.not_lt.mpr h)

/-- What memory reads after bytes are stored from an address upward without running over the end of memory. -/
theorem Memory.readCell_storeFrom {m : Memory} (hm : m.wf = true) (addr : Word) (bytes : List Byte)
    (h : addr.toNat + bytes.length ≤ 65536) (x : Nat) :
    (m.storeFrom addr bytes).readCell x =
      if addr.toNat ≤ x ∧ x < addr.toNat + bytes.length then bytes.getD (x - addr.toNat) 0 else m.readCell x := by
  induction bytes generalizing m addr with
  | nil => rw [if_neg (by simp)]; rfl
  | cons v rest ih =>
    have hnext : (addr + 1).toNat = (addr.toNat + 1) % 65536 := BitVec.toNat_add addr 1
    rw [List.length_cons] at h ⊢
    rw [Memory.storeFrom, ih (Memory.wf_writeCell hm addr.isLt v) (addr + 1) (by omega),
      Memory.readCell_writeCell hm]
    by_cases hx : x = addr.toNat
    · rw [if_neg (by omega), if_pos hx, if_pos (by omega), hx, Nat.sub_self, List.getD_cons_zero]
    · rw [if_neg hx]
      by_cases hin : (addr + 1).toNat ≤ x ∧ x < (addr + 1).toNat + rest.length
      · rw [if_pos hin, if_pos (by omega), show x - addr.toNat = x - (addr + 1).toNat + 1 by omega,
          List.getD_cons_succ]
      · rw [if_neg hin, if_neg (by omega)]

/-- Settles O14. -/
theorem resetValuesAreTheSpecs : Obligations.ResetValuesAreTheSpecs :=
  ⟨rfl, rfl, rfl, rfl, rfl, powerOn_defaultCatalog (Nat.zero_le _)⟩

theorem resetFlags_lowF (z n h c : Bool) : resetFlags z n h c &&& 0x0F = 0 := by
  revert z n h c; decide

/-- The four flags of RESET_REGS in the places of 10_state.md R14. -/
theorem getFlag_resetFlags {s : State} {z n h c : Bool} (hf : s.f = resetFlags z n h c) :
    s.getFlag .Z = z ∧ s.getFlag .N = n ∧ s.getFlag .H = h ∧ s.getFlag .C = c := by
  simp only [State.getFlag, State.read8, hf]
  clear hf
  revert z n h c; decide

/-- Memory after bring-up: the image from address 0 over MEM_INIT (70_reset_and_hazards.md R182). -/
theorem ResetParams.start_busRead {p : ResetParams} (h : p.image.length ≤ 65536) (a : Word) :
    p.start.busRead a =
      if a.toNat < p.image.length then p.image.getD a.toNat 0 else (initMemory p.memInit).readCell a.toNat := by
  have hread : p.start.busRead a = _ :=
    Memory.readCell_storeFrom (wf_initMemory p.memInit) 0 p.image (by simpa using h) a.toNat
  simpa using hread

/-- Settles O12: every clause is a field of `ResetParams.start`. -/
theorem powerOnLeavesResetState : Obligations.PowerOnLeavesResetState := fun p hp =>
  ⟨p.start, powerOn_defaultCatalog hp, rfl, rfl, rfl, resetFlags_lowF _ _ _ _, rfl, ⟨rfl, rfl, rfl, rfl, rfl, rfl, rfl⟩,
    getFlag_resetFlags rfl, Memory.wf_storeFrom (wf_initMemory _) 0 p.image, ResetParams.start_busRead hp⟩

end Sys2Proof.Machine
end

section
/-! PROOFS. The accesses of a step to memory (O10, O11, O23, O24, O28): what a read sees after a write, and that a step
touches memory through its list of accesses only. -/

namespace Sys2Proof.Machine

/-! ## Reads and writes -/

/-- Writes to two different cells can be exchanged. -/
theorem Memory.writeCell_comm {m : Memory} (hm : m.wf = true) {a b : Nat} (ha : a < 65536) (hb : b < 65536)
    (hne : a ≠ b) (v w : Byte) : (m.writeCell a v).writeCell b w = (m.writeCell b w).writeCell a v := by
  have hma := wf_writeCell hm ha v
  have hmb := wf_writeCell hm hb w
  refine ext_of_readCell (wf_writeCell hma hb w) (wf_writeCell hmb ha v) fun x => ?_
  rw [readCell_writeCell hma, readCell_writeCell hm, readCell_writeCell hmb, readCell_writeCell hm]
  by_cases hx : x = a
  · rw [if_pos hx, if_pos hx, if_neg (hx ▸ hne)]
  · rw [if_neg hx, if_neg hx]

/-- Settles O10. -/
theorem busReadSeesLastWrite : Obligations.BusReadSeesLastWrite := fun _ a x v hm =>
  ⟨State.busRead_busWrite hm a x v, State.wf_busWrite hm a v, SameBut.busWrite hm a v, rfl, rfl, rfl, rfl, rfl⟩

/-- Settles O11: what the two cells read afterwards is `State.busRead_busWrite16`; the two byte writes go to different
cells, so they can be exchanged. -/
theorem word16AccessIsLittleEndian : Obligations.Word16AccessIsLittleEndian := by
  intro s a v hm
  have hlow : (s.busWrite16 a v).busRead a = loByte v := by
    rw [State.busRead_busWrite16 hm, if_neg (succ_ne_self a).symm, if_pos rfl]
  have hhigh : (s.busWrite16 a v).busRead (a + 1) = hiByte v := by
    rw [State.busRead_busWrite16 hm, if_pos rfl]
  have hne : a.toNat ≠ (a + 1).toNat := fun h => succ_ne_self a (BitVec.eq_of_toNat_eq h.symm)
  refine ⟨rfl, succ_ne_self a, hlow, hhigh, SameBut.busWrite16 hm a v, rfl, rfl, rfl, rfl, rfl, ?_, ?_⟩
  · rw [State.busRead16, hlow, hhigh, pair_hiByte_loByte]
  · exact Memory.writeCell_comm hm a.isLt (a + 1).isLt hne _ _

/-! ## A store over its own opcode -/

/-- Settles O28: 0x77 decodes to `LD (HL),A` before the store, and the store reaches the byte at `PC` alone, so that a
later decode there reads the new opcode and the two old bytes behind it. -/
theorem selfOverwritingStoreRunsAsFetched : Obligations.SelfOverwritingStoreRunsAsFetched := by
  intro s hm hrun hop hHL
  have hinstr : s.fetchInstr = .ld_mHL_A := by
    rw [State.fetchInstr, hop]
    rfl
  have hstep : step s = .next ((s.busWrite s.pc s.a).commit (s.pc + 1) 8) := by
    have hstore : exec .ld_mHL_A s = _ := ldmHLR_eq .A s
    rw [hHL] at hstore
    rw [step_running hrun, hinstr, hstore]
    rfl
  refine ⟨_, hstep, rfl, rfl, ?_, (SameBut.busWrite hm s.pc s.a).commit _ _, rfl, hrun, rfl, ?_⟩
  · rw [State.busRead_commit, State.busRead_busWrite hm, if_pos rfl]
  · have hread (x : Word) : (s.busWrite s.pc s.a).busRead x = if x = s.pc then s.a else s.busRead x :=
      State.busRead_busWrite hm s.pc x s.a
    have hne : s.pc + 2 ≠ s.pc := by simp
    show decode3 ((s.busWrite s.pc s.a).busRead s.pc) ((s.busWrite s.pc s.a).busRead (s.pc + 1))
      ((s.busWrite s.pc s.a).busRead (s.pc + 2)) = _
    rw [hread, hread, hread, if_pos rfl, if_neg (succ_ne_self s.pc), if_neg hne]

/-! ## The accesses of an instruction -/

/-- The data accesses of an instruction, in their order: the table of 20_memory.md R38 with the instruction's own
immediates, where `dataAccesses` reads those of the catalog entry from memory. -/
def instrAccesses (i : Instr) (s : State) : List Access :=
  match i with
  | .ld_B_mHL | .ld_C_mHL | .ld_D_mHL | .ld_E_mHL | .ld_H_mHL | .ld_L_mHL | .ld_A_mHL | .ld_A_mHLi | .ld_A_mHLd =>
    [.read (s.read16 .HL)]
  | .ld_A_mBC => [.read (s.read16 .BC)]
  | .ld_A_mDE => [.read (s.read16 .DE)]
  | .ld_A_ma16 a16 => [.read a16]
  | .ldh_A_ma8 a8 => [.read (highPage a8)]
  | .ldh_A_mC => [.read (highPage (s.read8 .C))]
  | .ld_mHL_B => [.write (s.read16 .HL) (s.read8 .B)]
  | .ld_mHL_C => [.write (s.read16 .HL) (s.read8 .C)]
  | .ld_mHL_D => [.write (s.read16 .HL) (s.read8 .D)]
  | .ld_mHL_E => [.write (s.read16 .HL) (s.read8 .E)]
  | .ld_mHL_H => [.write (s.read16 .HL) (s.read8 .H)]
  | .ld_mHL_L => [.write (s.read16 .HL) (s.read8 .L)]
  | .ld_mHL_A | .ld_mHLi_A | .ld_mHLd_A => [.write (s.read16 .HL) (s.read8 .A)]
  | .ld_mHL_n8 n8 => [.write (s.read16 .HL) n8]
  | .ld_mBC_A => [.write (s.read16 .BC) (s.read8 .A)]
  | .ld_mDE_A => [.write (s.read16 .DE) (s.read8 .A)]
  | .ld_ma16_A a16 => [.write a16 (s.read8 .A)]
  | .ldh_ma8_A a8 => [.write (highPage a8) (s.read8 .A)]
  | .ldh_mC_A => [.write (highPage (s.read8 .C)) (s.read8 .A)]
  | .ld_ma16_SP a16 => write16Accesses a16 s.sp
  | .push_BC => write16Accesses (s.sp - 2) (s.read16 .BC)
  | .push_DE => write16Accesses (s.sp - 2) (s.read16 .DE)
  | .push_HL => write16Accesses (s.sp - 2) (s.read16 .HL)
  | .push_AF => write16Accesses (s.sp - 2) (s.read16 .AF)
  | .rst_00 | .rst_08 | .rst_10 | .rst_18 | .rst_20 | .rst_28 | .rst_30 | .rst_38 =>
    write16Accesses (s.sp - 2) (s.pc + 1)
  | .call_a16 _ => write16Accesses (s.sp - 2) (s.pc + 3)
  | .call_NZ_a16 _ => if s.cond .NZ then write16Accesses (s.sp - 2) (s.pc + 3) else []
  | .call_Z_a16 _ => if s.cond .Z then write16Accesses (s.sp - 2) (s.pc + 3) else []
  | .call_NC_a16 _ => if s.cond .NC then write16Accesses (s.sp - 2) (s.pc + 3) else []
  | .call_C_a16 _ => if s.cond .C then write16Accesses (s.sp - 2) (s.pc + 3) else []
  | _ => []

/-- The prefixed set makes no data access (20_memory.md R38). -/
theorem instrAccesses_decodeCB (b1 : Byte) (s : State) : instrAccesses (decodeCB b1) s = [] := by
  unfold decodeCB
  split
  · dsimp only
    split <;> rfl
  all_goals rfl

/-- An entry whose mnemonic has no case makes no data access. -/
theorem dataAccesses_unmodeled {spec : InstructionSpec} (h : spec.mnemonic.modeled = false) (key : Bool × Byte)
    (s : State) : dataAccesses (decodeWith key spec s) s = [] := by
  have hne {mn : Mnemonic} (hmn : mn.modeled = true) : (decodeWith key spec s).mnemonic ≠ mn := by
    rintro rfl
    exact Bool.false_ne_true (h.symm.trans hmn)
  unfold dataAccesses
  split
  case h_6 => rfl
  all_goals exact absurd ‹_› (hne rfl)

/-- The data accesses of the catalog entry of an unprefixed opcode are those of the instruction decoded, whose immediates
are the bytes behind the opcode. -/
theorem dataAccesses_unprefixed (s : State) (b0 : Byte) :
    dataAccesses (decodeWith (false, b0) (Catalog.unprefixed b0) s) s =
      instrAccesses (decode3 b0 (s.busRead (s.pc + 1)) (s.busRead (s.pc + 2))) s := by
  have absolute : s.busRead16 (s.pc + 1) = pair (s.busRead (s.pc + 2)) (s.busRead (s.pc + 1)) := by
    rw [State.busRead16, BitVec.add_assoc]
    rfl
  have conditional (taken : Bool) (as : List Access) :
      (if (taken && true) = true then as else []) = if taken = true then as else [] := by
    rw [Bool.and_true]
  induction b0 using byte_by_nibbles with
  | h hi lo =>
    rcases nibble_cases hi with rfl | rfl | rfl | rfl | rfl | rfl | rfl | rfl | rfl | rfl | rfl | rfl | rfl | rfl | rfl
      | rfl <;>
    rcases nibble_cases lo with rfl | rfl | rfl | rfl | rfl | rfl | rfl | rfl | rfl | rfl | rfl | rfl | rfl | rfl | rfl
      | rfl <;>
    try rfl
    -- left over, in the order of their opcodes: `LD (a16),SP`; `CALL NZ`; `0xCB`; `CALL Z`, `CALL NC`, `CALL C`; the
    -- store of `A` at `(a16)` and its load from there
    · exact congrArg (write16Accesses · s.sp) absolute
    · exact conditional _ _
    · exact (instrAccesses_decodeCB _ s).symm
    · exact conditional _ _
    · exact conditional _ _
    · exact conditional _ _
    · exact congrArg (fun a => [Access.write a (s.read8 .A)]) absolute
    · exact congrArg (fun a => [Access.read a]) absolute

/-! ## The accesses of a step -/

/-- How many bytes a step fetches: both of a prefixed instruction, all of an executed one, else the opcode (20_memory.md
R48). -/
def fetchCount (b0 : Byte) : Nat :=
  if b0 = 0xCB then 2 else if (Catalog.unprefixed b0).mnemonic.modeled then (Catalog.unprefixed b0).length else 1

/-- Fetches of `n` bytes from `pc` upward. -/
def fetchAccesses (pc : Word) (n : Nat) : List Access := (List.range n).map fun k => .fetch (pc + BitVec.ofNat 16 k)

theorem fetchCount_pos (b0 : Byte) : 0 < fetchCount b0 := by
  revert b0; decide

theorem readsAddr_append (as bs : List Access) (a : Word) :
    readsAddr (as ++ bs) a = true ↔ readsAddr as a = true ∨ readsAddr bs a = true := by
  simp only [readsAddr, List.contains_eq_mem, List.mem_append, Bool.or_eq_true, decide_eq_true_eq]
  exact or_or_or_comm

theorem readsAddr_fetchAccesses (pc : Word) {n k : Nat} (hk : k < n) :
    readsAddr (fetchAccesses pc n) (pc + BitVec.ofNat 16 k) = true := by
  have hmem : Access.fetch (pc + BitVec.ofNat 16 k) ∈ fetchAccesses pc n :=
    List.mem_map_of_mem (List.mem_range.mpr hk)
  rw [readsAddr, List.contains_iff_mem.mpr hmem, Bool.true_or]

/-- Fetches write nothing. -/
theorem applyAccesses_fetchAccesses (m : Memory) (pc : Word) (n : Nat) (as : List Access) :
    applyAccesses m (fetchAccesses pc n ++ as) = applyAccesses m as := by
  unfold fetchAccesses
  induction List.range n with
  | nil => rfl
  | cons k ks ih => exact ih

/-- The accesses of a running step: the fetches, then the data accesses of the instruction at `PC`. -/
theorem stepAccesses_running {s : State} (hrun : s.run = .running) :
    stepAccesses s = fetchAccesses s.pc (fetchCount (s.busRead s.pc)) ++ instrAccesses s.fetchInstr s := by
  have hfirst : Access.fetch s.pc = .fetch (s.pc + BitVec.ofNat 16 0) := congrArg _ (BitVec.add_zero s.pc).symm
  simp only [stepAccesses, hrun]
  by_cases hb : s.busRead s.pc = 0xCB
  · have hdata : instrAccesses s.fetchInstr s = [] := by
      rw [State.fetchInstr, hb]
      exact instrAccesses_decodeCB _ s
    rw [State.fetchKey, if_pos hb, if_pos rfl, hdata, List.append_nil, fetchCount, if_pos hb, hfirst]
    rfl
  · rw [State.fetchKey, if_neg hb, if_neg Bool.false_ne_true, State.fetchInstr,
      ← dataAccesses_unprefixed s (s.busRead s.pc), fetchCount, if_neg hb]
    by_cases hmod : (Catalog.unprefixed (s.busRead s.pc)).mnemonic.modeled = true
    · rw [if_pos hmod]
      exact if_pos hmod
    · rw [dataAccesses_unmodeled (Bool.eq_false_iff.mpr hmod), List.append_nil, if_neg hmod, hfirst]
      exact if_neg hmod

/-- Two instructions have one meaning and make the same accesses. -/
def SameMeaning (i j : Instr) : Prop := exec i = exec j ∧ instrAccesses i = instrAccesses j

/-- What a decoded instruction means depends on the bytes a step fetches only: an immediate that is not fetched does
nothing (log 17). -/
theorem decode3_fetched (b0 b1 b2 : Byte) :
    SameMeaning (decode3 b0 b1 b2)
      (decode3 b0 (if 1 < fetchCount b0 then b1 else 0) (if 2 < fetchCount b0 then b2 else 0)) := by
  induction b0 using byte_by_nibbles with
  | h hi lo =>
    rcases nibble_cases hi with rfl | rfl | rfl | rfl | rfl | rfl | rfl | rfl | rfl | rfl | rfl | rfl | rfl | rfl | rfl
      | rfl <;>
    rcases nibble_cases lo with rfl | rfl | rfl | rfl | rfl | rfl | rfl | rfl | rfl | rfl | rfl | rfl | rfl | rfl | rfl
      | rfl <;>
    -- the left one is decoded first, or the kernel compares the two decoders row by row
    · conv =>
        arg 1
        whnf
      exact ⟨rfl, rfl⟩

/-- Bytes that agree where a step fetches them decode to instructions of one meaning. -/
theorem decode3_congr {b0 b1 b2 c1 c2 : Byte} (h1 : 1 < fetchCount b0 → c1 = b1) (h2 : 2 < fetchCount b0 → c2 = b2) :
    SameMeaning (decode3 b0 c1 c2) (decode3 b0 b1 b2) := by
  obtain ⟨hexec, haccesses⟩ := decode3_fetched b0 b1 b2
  obtain ⟨hexec', haccesses'⟩ := decode3_fetched b0 c1 c2
  rw [ite_congr rfl h1 fun _ => rfl, ite_congr rfl h2 fun _ => rfl] at hexec' haccesses'
  exact ⟨hexec'.trans hexec.symm, haccesses'.trans haccesses.symm⟩

/-! ## Another memory -/

/-- `s` over the memory `m`. -/
def State.withMem (s : State) (m : Memory) : State := { s with mem := m }

/-- Which cells an instruction touches does not depend on memory. -/
theorem instrAccesses_withMem (i : Instr) (s : State) (m : Memory) :
    instrAccesses i (s.withMem m) = instrAccesses i s := by
  cases i <;> rfl

/-- Over the memory `m` in place of its own, `f` answers for `s` what it answers for `s`, but for memory, which is `m`
with the writes of `as`. -/
def RunsOver (f : State → Answer) (as : List Access) (s : State) (m : Memory) : Prop :=
  ∃ t, f s = .next t ∧ f (s.withMem m) = .next (t.withMem (applyAccesses m as))

/-- A conditional meaning makes the accesses of the branch it takes; the condition reads the flags, not memory. -/
theorem RunsOver.ite {f g : State → Answer} {cc : Cond} {as bs cs : List Access} {s : State} {m : Memory}
    (hf : RunsOver f as s m) (hg : RunsOver g bs s m) (hcs : cs = if s.cond cc then as else bs) :
    RunsOver (fun u => if u.cond cc then f u else g u) cs s m := by
  have hcond : (s.withMem m).cond cc = s.cond cc := State.cond_congr rfl cc
  subst hcs
  simp only [RunsOver, hcond]
  split
  · exact hf
  · exact hg

/-- Every instruction runs over another memory that agrees with its reads; the cases are those that read memory and those
that have a condition, all others compute alike over any memory. -/
theorem exec_runsOver (i : Instr) (s : State) (m : Memory)
    (hagree : ∀ a, readsAddr (instrAccesses i s) a = true → (s.withMem m).busRead a = s.busRead a) :
    RunsOver (exec i) (instrAccesses i s) s m := by
  have hread (a : Word) (h : instrAccesses i s = [.read a]) : (s.withMem m).busRead a = s.busRead a := by
    refine hagree a ?_
    simp [h, readsAddr]
  cases i
  case ld_B_mHL | ld_C_mHL | ld_D_mHL | ld_E_mHL | ld_H_mHL | ld_L_mHL | ld_A_mHL =>
    exact ⟨_, ldRmHL_eq .., hread _ rfl ▸ rfl⟩
  case ld_A_mBC | ld_A_mDE | ld_A_mHLi | ld_A_mHLd =>
    exact ⟨_, ldAmPair_eq .., hread _ rfl ▸ rfl⟩
  case ld_A_ma16 =>
    exact ⟨_, ldAma16_eq .., hread _ rfl ▸ rfl⟩
  case ldh_A_ma8 | ldh_A_mC =>
    exact ⟨_, ldhLoad_eq .., hread _ rfl ▸ rfl⟩
  case call_NZ_a16 | call_Z_a16 | call_NC_a16 | call_C_a16 =>
    exact .ite ⟨_, rfl, rfl⟩ ⟨_, rfl, rfl⟩ rfl
  case jp_NZ_a16 | jp_Z_a16 | jp_NC_a16 | jp_C_a16 | jr_NZ_e8 | jr_Z_e8 | jr_NC_e8 | jr_C_e8 =>
    exact .ite ⟨_, rfl, rfl⟩ ⟨_, rfl, rfl⟩ (ite_self []).symm
  all_goals exact ⟨_, rfl, rfl⟩

/-- A state that holds the bytes the step of `s` fetches has the same opcode at `PC`, and an instruction of the same
meaning. -/
theorem fetchInstr_congr {s s' : State} (hpc : s'.pc = s.pc)
    (h : ∀ k < fetchCount (s.busRead s.pc), s'.busRead (s.pc + BitVec.ofNat 16 k) = s.busRead (s.pc + BitVec.ofNat 16 k)) :
    s'.busRead s'.pc = s.busRead s.pc ∧ SameMeaning s'.fetchInstr s.fetchInstr := by
  have hopcode : s'.busRead s.pc = s.busRead s.pc := by
    simpa using h 0 (fetchCount_pos _)
  rw [State.fetchInstr, State.fetchInstr, hpc, hopcode]
  exact ⟨rfl, decode3_congr (h 1) (h 2)⟩

/-- A step of a stopped core makes no access (40_step_decode_resolve.md R86). -/
theorem stepAccesses_stopped {s : State} (h : s.run = .halted ∨ s.run = .faulted) : stepAccesses s = [] := by
  rcases h with h | h <;> simp only [stepAccesses, h]

/-- Settles O24: the fetches of a running step fix what it executes (`fetchInstr_congr`), and what that does depends on
its own reads (`exec_runsOver`); a stopped core looks at no memory. -/
theorem stepDependsOnlyOnWhatItReads : Obligations.StepDependsOnlyOnWhatItReads := by
  intro s t m hstep hagree
  show stepAccesses (s.withMem m) = stepAccesses s ∧
    step (s.withMem m) = .next (t.withMem (applyAccesses m (stepAccesses s)))
  cases hrun : s.run with
  | running =>
    rw [step_running hrun] at hstep
    rw [step_running (s := s.withMem m) hrun, stepAccesses_running (s := s.withMem m) hrun]
    rw [stepAccesses_running hrun] at hagree ⊢
    obtain ⟨hopcode, hexec, haccesses⟩ := fetchInstr_congr (s := s) (s' := s.withMem m) rfl fun k hk =>
      hagree _ ((readsAddr_append ..).mpr (.inl (readsAddr_fetchAccesses s.pc hk)))
    obtain ⟨u, hu, hother⟩ := exec_runsOver s.fetchInstr s m fun a ha =>
      hagree a ((readsAddr_append ..).mpr (.inr ha))
    cases Answer.next_inj.mp (hu.symm.trans hstep)
    rw [hopcode, haccesses, instrAccesses_withMem, hexec, hother, applyAccesses_fetchAccesses]
    exact ⟨rfl, rfl⟩
  | halted =>
    rw [step_halted hrun] at hstep
    cases hstep
    rw [stepAccesses_stopped (.inl hrun), stepAccesses_stopped (s := s.withMem m) (.inl hrun)]
    exact ⟨rfl, step_halted hrun⟩
  | faulted =>
    rw [step_faulted hrun] at hstep
    cases hstep
    rw [stepAccesses_stopped (.inr hrun), stepAccesses_stopped (s := s.withMem m) (.inr hrun)]
    exact ⟨rfl, step_faulted hrun⟩

/-- Settles O23: O24 for the state's own memory. -/
theorem stepWritesOnlyItsAccesses : Obligations.StepWritesOnlyItsAccesses := by
  intro s t hstep
  obtain ⟨-, hown⟩ := stepDependsOnlyOnWhatItReads s t s.mem hstep fun _ _ => rfl
  exact congrArg State.mem (Answer.next_inj.mp (hstep.symm.trans hown))

end Sys2Proof.Machine
end

section
/-! PROOFS. Decoding and encoding are inverse to each other (O1, O2, O4), decoding refuses short lists only (O3), and
`prefixCB` is never decoded (O60). -/

namespace Sys2Proof

/-! ## The decoder on a list -/

/-- A list that is no shorter than its first byte says is decoded from its first three bytes. -/
theorem decode_of_length_le {b0 : Byte} {rest : List Byte} (h : lengthOf b0 ≤ (b0 :: rest).length) :
    decode (b0 :: rest) = .ok (decode3 b0 (rest.getD 0 0) (rest.getD 1 0), (b0 :: rest).drop (lengthOf b0)) :=
  if_neg (Nat.not_lt.mpr h)

/-- A list that is shorter than its first byte says is refused. -/
theorem decode_of_length_lt {b0 : Byte} {rest : List Byte} (h : (b0 :: rest).length < lengthOf b0) :
    decode (b0 :: rest) = .error (.truncated (lengthOf b0) (b0 :: rest).length) :=
  if_pos h

/-- The bytes of one instruction, whatever bytes follow them, are decoded and taken off the list. -/
theorem decode_append {b0 : Byte} {bs : List Byte} (hlen : lengthOf b0 = (b0 :: bs).length) (rest : List Byte) :
    decode (b0 :: bs ++ rest) = .ok (decode3 b0 ((bs ++ rest).getD 0 0) ((bs ++ rest).getD 1 0), rest) := by
  have hle : lengthOf b0 ≤ (b0 :: (bs ++ rest)).length := by
    rw [hlen, ← List.cons_append, List.length_append]
    exact Nat.le_add_right _ _
  rw [List.cons_append, decode_of_length_le hle, hlen, ← List.cons_append, List.drop_left]

/-- What a list decodes to is what some three bytes are read as. -/
theorem exists_decode3_of_decode {bytes rest : List Byte} {i : Instr} (h : decode bytes = .ok (i, rest)) :
    ∃ b0 b1 b2, decode3 b0 b1 b2 = i := by
  cases bytes with
  | nil => cases h
  | cons b0 bs =>
    rcases Nat.lt_or_ge (b0 :: bs).length (lengthOf b0) with hlt | hle
    · rw [decode_of_length_lt hlt] at h
      cases h
    · rw [decode_of_length_le hle] at h
      cases h
      exact ⟨_, _, _, rfl⟩

/-! ## Decode of encode -/

@[simp] theorem fieldX_byteXYZ (x : BitVec 2) (y z : BitVec 3) : fieldX (byteXYZ x y z) = x := by
  revert x y z; decide

@[simp] theorem fieldY_byteXYZ (x : BitVec 2) (y z : BitVec 3) : fieldY (byteXYZ x y z) = y := by
  revert x y z; decide

@[simp] theorem fieldZ_byteXYZ (x : BitVec 2) (y z : BitVec 3) : fieldZ (byteXYZ x y z) = z := by
  revert x y z; decide

/-- A code names the operand it is the code of (30_encoding.md R53). -/
@[simp] theorem operand8_code (r : Operand8) : Catalog.operand8 r.code = r := by
  cases r <;> rfl

/-- An instruction without an immediate word: the decoder does not look behind the bytes it encodes to. -/
theorem decode_encode_of_bytes {i : Instr} {b0 : Byte} {bs : List Byte} (henc : encode i = b0 :: bs)
    (hlen : lengthOf b0 = (b0 :: bs).length)
    (hread : ∀ rest, decode3 b0 ((bs ++ rest).getD 0 0) ((bs ++ rest).getD 1 0) = i) (rest : List Byte) :
    decode (encode i ++ rest) = .ok (i, rest) := by
  rw [henc, decode_append hlen, hread]

/-- An instruction with an immediate word: the two bytes behind the first make the word up again (30_encoding.md
R57). -/
theorem decode_encode_of_imm16 {f : Word → Instr} {b0 : Byte} {n16 : Word} (henc : encode (f n16) = withImm16 b0 n16)
    (hlen : lengthOf b0 = 3) (hread : ∀ b1 b2, decode3 b0 b1 b2 = f (pair b2 b1)) (rest : List Byte) :
    decode (encode (f n16) ++ rest) = .ok (f n16, rest) := by
  refine decode_encode_of_bytes henc hlen (fun rest => ?_) rest
  show decode3 b0 (loByte n16) (hiByte n16) = f n16
  rw [hread, pair_hiByte_loByte]

/-- A prefixed instruction: the fields of the second byte are those it is made of (30_encoding.md R63). -/
theorem decode_encode_of_prefixed {i : Instr} {x : BitVec 2} {y : BitVec 3} {r : Operand8}
    (henc : encode i = prefixedWord x y r) (hread : decodeCB (byteXYZ x y r.code) = i) (rest : List Byte) :
    decode (encode i ++ rest) = .ok (i, rest) :=
  decode_encode_of_bytes henc rfl (fun _ => hread) rest

/-- Settles O1: the prefixed set, the instructions with an immediate word, and the others. -/
theorem decodeOfEncode : Obligations.DecodeOfEncode := by
  intro i rest hwf
  cases i
  case prefixCB => exact absurd hwf Bool.false_ne_true
  case rlc | rrc | rl | rr | sla | sra | swap | srl | bit | res | set =>
    exact decode_encode_of_prefixed rfl (by simp [decodeCB]) rest
  case ld_BC_n16 | ld_DE_n16 | ld_HL_n16 | ld_SP_n16 | ld_ma16_SP | ld_ma16_A | ld_A_ma16 | jp_a16 | jp_NZ_a16 |
      jp_Z_a16 | jp_NC_a16 | jp_C_a16 | call_a16 | call_NZ_a16 | call_Z_a16 | call_NC_a16 | call_C_a16 =>
    exact decode_encode_of_imm16 rfl rfl (fun _ _ => rfl) rest
  all_goals exact decode_encode_of_bytes rfl rfl (fun _ => rfl) rest

/-- Settles O4: each word is the encoding of the instruction it decodes to. -/
theorem writtenOutWordsDecode : Obligations.WrittenOutWordsDecode :=
  have roundTrip (i : Instr) (hwf : i.wellFormed = true) : decode (encode i ++ []) = .ok (i, []) :=
    decodeOfEncode i [] hwf
  ⟨roundTrip (.ld_A_n8 0x42) rfl, roundTrip .ld_B_A rfl, roundTrip .nop rfl, roundTrip (.jp_a16 0x0004) rfl,
    roundTrip (.ld_SP_n16 0xFFFE) rfl, roundTrip (.ldh_ma8_A 0x80) rfl, roundTrip (.jr_C_e8 0xFE) rfl,
    roundTrip (.call_C_a16 0x2000) rfl, roundTrip .rst_28 rfl, roundTrip .push_AF rfl, roundTrip .halt rfl,
    roundTrip (.bit 7 .H) rfl, roundTrip .illegal_D3 rfl⟩

/-! ## Encode of decode -/

/-- What three bytes decode to encodes to as many of them as the first one says; an immediate word gives
its two bytes back, and `0xCB` is `encode_decodeCB`. -/
theorem encode_decode3 (b0 b1 b2 : Byte) : encode (decode3 b0 b1 b2) = [b0, b1, b2].take (lengthOf b0) := by
  have imm16 (b : Byte) : withImm16 b (pair b2 b1) = [b, b1, b2] := by
    rw [withImm16, loByte_pair, hiByte_pair]
  induction b0 using byte_by_nibbles with
  | h hi lo =>
    rcases nibble_cases hi with rfl | rfl | rfl | rfl | rfl | rfl | rfl | rfl | rfl | rfl | rfl | rfl | rfl | rfl | rfl
      | rfl <;>
    rcases nibble_cases lo with rfl | rfl | rfl | rfl | rfl | rfl | rfl | rfl | rfl | rfl | rfl | rfl | rfl | rfl | rfl
      | rfl <;>
    try rfl
    -- left over, in the order of their opcodes: nine rows with an immediate word, `0xCB`, eight more with a word
    pick_goal 10
    · exact encode_decodeCB b1
    all_goals exact imm16 _

/-- The key of `prefixCB` is no key the two-step fetch finds (30_encoding.md R64, decision D24). -/
theorem decode3_ne_prefixCB (b0 b1 b2 : Byte) : decode3 b0 b1 b2 ≠ .prefixCB := by
  intro h
  have hkey := decode3_key b0 b1 b2
  rw [h] at hkey
  split at hkey
  · cases hkey
  · exact absurd (congrArg Prod.snd hkey).symm ‹_›

/-- Settles O2: what is decoded is well formed because it is not `prefixCB`. -/
theorem encodeOfDecode : Obligations.EncodeOfDecode := fun b0 b1 b2 =>
  ⟨encode_decode3 b0 b1 b2, decide_eq_true (decode3_ne_prefixCB b0 b1 b2)⟩

/-! ## What is refused -/

/-- Settles O3: by the length of the list; the empty list is shorter than the length of `NOP`. -/
theorem decodeRefusesOnlyShortLists : Obligations.DecodeRefusesOnlyShortLists := by
  intro bytes
  cases bytes with
  | nil => exact ⟨fun _ => Nat.one_pos, fun _ => ⟨.empty, rfl⟩⟩
  | cons b0 rest =>
    rw [List.getD_cons_zero]
    refine ⟨fun ⟨e, he⟩ => lt_of_not_ge fun hle => ?_, fun hlt => ⟨_, decode_of_length_lt hlt⟩⟩
    rw [decode_of_length_le hle] at he
    cases he

end Sys2Proof

namespace Sys2Proof.Machine

/-- Settles O60: whatever decodes is read by `decode3`, which never answers `prefixCB`. -/
theorem prefixEntryIsNeverDecoded : Obligations.PrefixEntryIsNeverDecoded := by
  refine ⟨rfl, fun bytes i rest h => ?_, fun s => ⟨_, .of_takeStop rfl⟩⟩
  obtain ⟨b0, b1, b2, rfl⟩ := exists_decode3_of_decode h
  exact decode3_ne_prefixCB b0 b1 b2

end Sys2Proof.Machine
end

section
/-! PROOFS. The step (O5, O9, O16, O17, O19, O21): it runs the instruction at `PC`, always answers, is inert in a
stopped core, and is the engine of 40_step_decode_resolve.md R70 to R87 under the default catalog. -/

namespace Sys2Proof

theorem lengthOf_le_three (b0 : Byte) : lengthOf b0 ≤ 3 := by
  revert b0; decide

end Sys2Proof

namespace Sys2Proof.Machine

/-! ## What a step executes -/

/-- Settles O5: the decoder's key is `fetchKey`, by its two branches. -/
theorem decoderKeyIsTwoStepFetch : Obligations.DecoderKeyIsTwoStepFetch :=
  ⟨fun s h => s.fetchInstr_key.trans (if_neg h), fun s h => s.fetchInstr_key.trans (if_pos h)⟩

/-- Settles O16: three bytes are no shorter than any instruction, so they are read as the fetch reads them. -/
theorem stepRunsTheDecodedInstruction : Obligations.StepRunsTheDecodedInstruction := by
  intro s i rest hrun hdecode
  rw [decode_of_length_le (lengthOf_le_three _)] at hdecode
  cases hdecode
  exact step_running hrun

/-- Settles O17: an instruction runs in one of the ways of `exec_ran`, a stopped core repeats its outcome. -/
theorem everyStepAnswersANextState : Obligations.EveryStepAnswersANextState := by
  have hexec (i : Instr) (s : State) : ∃ t, exec i s = .next t := by
    obtain ⟨t, ht, -⟩ := exec_ran i s
    exact ⟨t, ht⟩
  refine ⟨hexec, fun s => ?_⟩
  cases hrun : s.run with
  | running => exact step_running hrun ▸ hexec s.fetchInstr s
  | halted => exact ⟨_, step_halted hrun⟩
  | faulted => exact ⟨_, step_faulted hrun⟩

/-- Settles O9: writing `N` or `H` leaves `Z` and `C`, which are all a condition reads. -/
theorem conditionCodesReadZAndC : Obligations.ConditionCodesReadZAndC := by
  refine ⟨fun s => ⟨rfl, rfl, rfl, rfl⟩, fun s cc x => ?_⟩
  cases cc <;> simp [State.cond, State.getFlag_setFlag]

/-! ## Stopped cores -/

/-- The first of several steps. -/
theorem runSteps_succ {s t : State} (h : step s = .next t) (n : Nat) : runSteps (n + 1) s = runSteps n t := by
  rw [runSteps, h]

/-- A state that steps to itself is where any number of steps leaves it. -/
theorem runSteps_of_step_self {t : State} (h : step t = .next t) (n : Nat) : runSteps n t = .next t := by
  induction n with
  | zero => rfl
  | succ n ih => rw [runSteps_succ h, ih]

/-- Settles O19: the first step records the outcome, after which a step changes nothing. -/
theorem stoppedCoreIsInert : Obligations.StoppedCoreIsInert := by
  intro s n
  constructor
  · intro hrun
    have hagain : step s.repeatHalt = .next s.repeatHalt := step_halted (s := s.repeatHalt) hrun
    rw [runSteps_succ (step_halted hrun), runSteps_of_step_self hagain]
    rfl
  · intro hrun
    have hagain : step s.repeatError = .next s.repeatError := step_faulted (s := s.repeatError) hrun
    rw [runSteps_succ (step_faulted hrun), runSteps_of_step_self hagain]
    rfl

/-! ## The engine, outcome by outcome (40_step_decode_resolve.md R71) -/

/-- An illegal entry halts. -/
theorem engineRun_of_illegal {cat : Catalog} {s : State}
    (h : (cat s.fetchKey.1 s.fetchKey.2).mnemonic = .ILLEGAL) : engineRun cat s = s.haltIllegal s.fetchKey.2 :=
  if_pos h

/-- An entry without a case in the executor faults. -/
theorem engineRun_of_unmodeled {cat : Catalog} {s : State}
    (h : (cat s.fetchKey.1 s.fetchKey.2).mnemonic.modeled = false)
    (hlegal : (cat s.fetchKey.1 s.fetchKey.2).mnemonic ≠ .ILLEGAL) :
    engineRun cat s = s.raiseUnimplemented s.fetchKey.1 s.fetchKey.2 := by
  simp only [engineRun, if_neg hlegal, h, Bool.not_false, if_true]

/-- An entry of a modeled family whose operand list is one of R83 commits what its family answers. -/
theorem engineRun_of_runFamily {cat : Catalog} {s : State} {r : FamilyResult}
    (h : (cat s.fetchKey.1 s.fetchKey.2).mnemonic.modeled = true)
    (hshape : shapeOk (cat s.fetchKey.1 s.fetchKey.2).mnemonic (cat s.fetchKey.1 s.fetchKey.2).operands = true)
    (hfamily : runFamily (decodeWith s.fetchKey (cat s.fetchKey.1 s.fetchKey.2) s) s = some r) :
    engineRun cat s = r.state.commit r.nextPc r.cycles := by
  have hlegal : (cat s.fetchKey.1 s.fetchKey.2).mnemonic ≠ .ILLEGAL := by
    intro hill
    rw [hill] at h
    cases h
  simp only [engineRun, if_neg hlegal, h, hshape, hfamily, Bool.not_true, Bool.false_eq_true, if_false]

/-! ## The engine's families and the meanings of the instructions -/

/-- The executor's family for `d` answers what the meaning `f` does. -/
def FamilyMeans (d : DecodedInstruction) (f : State → Answer) (s : State) : Prop :=
  ∃ r, runFamily d s = some r ∧ f s = .next (r.state.commit r.nextPc r.cycles)

/-- The cost of a conditional instruction: its first number when the condition holds, else its second
(40_step_decode_resolve.md R82). -/
theorem cost_conditional (key : Bool × Byte) (m : Mnemonic) (cc : Cond) {b : Binding} (hb : ∀ x, b ≠ .noStorage x)
    (len whenTaken otherwise : Nat) (s : State) :
    DecodedInstruction.cost ⟨key.1, key.2, m, [.noStorage cc, b], len, [whenTaken, otherwise]⟩ s =
      if s.cond cc then whenTaken else otherwise := by
  have htaken : DecodedInstruction.taken ⟨key.1, key.2, m, [.noStorage cc, b], len, [whenTaken, otherwise]⟩ s =
      s.cond cc := by
    cases b with
    | noStorage x => exact absurd rfl (hb x)
    | _ => exact Bool.and_true _
  rw [DecodedInstruction.cost, htaken]
  cases s.cond cc <;> rfl

section
variable (key : Bool × Byte) (cc : Cond) (s : State)

/-- `JP cc,a16` (44_jp_jr.md R131). -/
theorem FamilyMeans.jpCC (a16 : Word) :
    FamilyMeans ⟨key.1, key.2, .JP, [.noStorage cc, .val16 a16], 3, [16, 12]⟩ (jpCC cc a16) s := by
  refine ⟨_, rfl, ?_⟩
  rw [jpCC_eq, cost_conditional key .JP cc (b := .val16 a16) nofun]
  cases s.cond cc <;> rfl

/-- `JR cc,e8` (44_jp_jr.md R134). -/
theorem FamilyMeans.jrCC (e8 : Byte) :
    FamilyMeans ⟨key.1, key.2, .JR, [.noStorage cc, .val8 e8], 2, [12, 8]⟩ (jrCC cc e8) s := by
  refine ⟨_, rfl, ?_⟩
  rw [jrCC_eq, cost_conditional key .JR cc (b := .val8 e8) nofun]
  cases s.cond cc <;> rfl

/-- `CALL cc,a16` (45_call_rst_push.md R142). -/
theorem FamilyMeans.callCC (a16 : Word) :
    FamilyMeans ⟨key.1, key.2, .CALL, [.noStorage cc, .val16 a16], 3, [24, 12]⟩ (callCC cc a16) s := by
  have hcost := cost_conditional key .CALL cc (b := .val16 a16) nofun 3 24 12 s
  unfold FamilyMeans
  simp only [runFamily, hcost, callCC_eq]
  cases s.cond cc <;> exact ⟨_, rfl, rfl⟩

end

/-- An executed entry of the unprefixed half has an operand list of 40_step_decode_resolve.md R83. -/
theorem shapeOk_of_modeled (b0 : Byte) :
    (Catalog.unprefixed b0).mnemonic.modeled = true →
      shapeOk (Catalog.unprefixed b0).mnemonic (Catalog.unprefixed b0).operands = true := by
  revert b0; decide

/-- The family of an executed unprefixed opcode answers what the instruction decoded does. -/
theorem familyMeans_unprefixed (s : State) (b0 : Byte) :
    (Catalog.unprefixed b0).mnemonic.modeled = true →
      FamilyMeans (decodeWith (false, b0) (Catalog.unprefixed b0) s)
        (exec (decode3 b0 (s.busRead (s.pc + 1)) (s.busRead (s.pc + 2)))) s := by
  -- the address of the second immediate byte, as the engine's 16-bit read forms it
  rw [show s.pc + 2 = s.pc + 1 + 1 from (BitVec.add_assoc s.pc 1 1).symm]
  induction b0 using byte_by_nibbles with
  | h hi lo =>
    rcases nibble_cases hi with rfl | rfl | rfl | rfl | rfl | rfl | rfl | rfl | rfl | rfl | rfl | rfl | rfl | rfl | rfl
      | rfl <;>
    rcases nibble_cases lo with rfl | rfl | rfl | rfl | rfl | rfl | rfl | rfl | rfl | rfl | rfl | rfl | rfl | rfl | rfl
      | rfl <;>
    intro hmodeled <;>
    cases hmodeled <;>
    try exact ⟨_, rfl, rfl⟩
    -- left over: the conditional instructions, in the order of their opcodes
    · exact .jrCC _ .NZ s _
    · exact .jrCC _ .Z s _
    · exact .jrCC _ .NC s _
    · exact .jrCC _ .C s _
    · exact .jpCC _ .NZ s _
    · exact .callCC _ .NZ s _
    · exact .jpCC _ .Z s _
    · exact .callCC _ .Z s _
    · exact .jpCC _ .NC s _
    · exact .callCC _ .NC s _
    · exact .jpCC _ .C s _
    · exact .callCC _ .C s _

/-- The family of the instruction at `PC`, if it is a modeled one, answers what the instruction does; that
instruction is no prefixed one (30_encoding.md R63). -/
theorem familyMeans_fetchInstr {s : State}
    (h : (defaultCatalog s.fetchKey.1 s.fetchKey.2).mnemonic.modeled = true) :
    shapeOk (defaultCatalog s.fetchKey.1 s.fetchKey.2).mnemonic
        (defaultCatalog s.fetchKey.1 s.fetchKey.2).operands = true
      ∧ FamilyMeans (decodeWith s.fetchKey (defaultCatalog s.fetchKey.1 s.fetchKey.2) s) (exec s.fetchInstr) s := by
  by_cases hb : s.busRead s.pc = 0xCB
  · rw [State.fetchKey, if_pos hb] at h
    obtain ⟨hunmodeled, -⟩ := cbPrefixed_unmodeled (s.busRead (s.pc + 1))
    exact absurd (hunmodeled.symm.trans h) Bool.false_ne_true
  · rw [State.fetchKey, if_neg hb] at h ⊢
    exact ⟨shapeOk_of_modeled _ h, familyMeans_unprefixed s _ h⟩

/-- The instruction at `PC` does what the engine does under the default catalog: it stops the core as the engine does,
or its family means the same. -/
theorem exec_fetchInstr_eq_engineRun (s : State) : exec s.fetchInstr s = .next (engineRun defaultCatalog s) := by
  obtain ⟨t, ht, hran⟩ := exec_ran s.fetchInstr s
  cases hran with
  | completes modeled _ _ =>
    rw [State.fetchInstr_spec] at modeled
    obtain ⟨hshape, r, hfamily, hexec⟩ := familyMeans_fetchInstr modeled
    rw [hexec, engineRun_of_runFamily modeled hshape hfamily]
  | halts _ illegal =>
    rw [State.fetchInstr_spec] at illegal
    rw [ht, State.fetchInstr_key, engineRun_of_illegal illegal]
  | faults unmodeled =>
    rw [State.fetchInstr_spec] at unmodeled
    obtain ⟨hmnemonic, hlegal⟩ := unmodeled
    rw [ht, State.fetchInstr_key, engineRun_of_unmodeled hmnemonic hlegal]

/-- Settles O21: the run-state gate is the same, and behind it `exec_fetchInstr_eq_engineRun`. -/
theorem stepIsTheCatalogEngine : Obligations.StepIsTheCatalogEngine := by
  intro s
  cases hrun : s.run with
  | running => simp only [step_running hrun, exec_fetchInstr_eq_engineRun, stepWith, hrun]
  | halted => simp only [step_halted hrun, stepWith, hrun]
  | faulted => simp only [step_faulted hrun, stepWith, hrun]

end Sys2Proof.Machine
end

section
/-! PROOFS. What an instruction with one kind of effect does, said once for the statements of the LD families: its bytes
and catalog entry, and that it completes with its effect and changes nothing else. -/

namespace Sys2Proof.Machine

/-! ## Encoding -/

/-- An unprefixed instruction has the bytes it encodes to, they decode to it, and its entry is that of the first. -/
theorem EncodedAs.of_first_byte {i : Instr} {b0 : Byte} {rest : List Byte} {entry : InstructionSpec}
    (henc : encode i = b0 :: rest) (hb : b0 ≠ 0xCB) (hentry : Catalog.unprefixed b0 = entry) :
    EncodedAs i (b0 :: rest) entry where
  encodes := henc
  decodes := by
    have hwf : i ≠ .prefixCB := by
      rintro rfl
      exact hb (List.cons.inj henc).1.symm
    simpa only [henc, List.append_nil] using decodeOfEncode i [] (decide_eq_true hwf)
  catalog := (spec_of_first_byte henc hb).trans hentry

/-! ## Memory and frames -/

/-- Every instruction keeps memory canonical. -/
theorem exec_mem_wf {i : Instr} {s t : State} (h : exec i s = .next t) (hm : s.mem.wf = true) : t.mem.wf = true := by
  cases ran_of_exec h with
  | completes _ _ effect => exact effect.mem_wf hm
  | halts _ _ => exact hm
  | faults _ => exact hm

/-- Two changes one after the other change no more than both may. -/
theorem SameBut.trans {regs regs' : List Reg8} {cells cells' : List Word} {s t u : State}
    (h : SameBut regs cells s t) (h' : SameBut regs' cells' t u) : SameBut (regs ++ regs') (cells ++ cells') s u where
  keepsRegs r hr := by
    rw [List.mem_append, not_or] at hr
    rw [h'.keepsRegs r hr.2, h.keepsRegs r hr.1]
  keepsCells a ha := by
    rw [List.mem_append, not_or] at ha
    rw [h'.keepsCells a ha.2, h.keepsCells a ha.1]

/-- A frame may name more registers and cells than change. -/
theorem SameBut.mono {regs regs' : List Reg8} {cells cells' : List Word} {s t : State} (h : SameBut regs cells s t)
    (hregs : regs ⊆ regs') (hcells : cells ⊆ cells') : SameBut regs' cells' s t :=
  ⟨fun r hr => h.keepsRegs r (mt (@hregs r) hr), fun a ha => h.keepsCells a (mt (@hcells a) ha)⟩

/-- The adjust changes `H` and `L` only (40_step_decode_resolve.md R79). -/
theorem SameBut.adjustHL (s : State) (adj : Adjust) : SameBut [.H, .L] [] s (s.adjustHL adj) where
  keepsRegs r hr := by
    cases r
    case H | L => simp at hr
    all_goals simp [State.read8]
  keepsCells _ _ := State.busRead_adjustHL ..

/-- `HL` at its old value is `H` and `L` at theirs (10_state.md R11). -/
theorem SameBut.of_read16_HL {cells : List Word} {s t : State} (h : SameBut [.H, .L] cells s t)
    (hHL : t.read16 .HL = s.read16 .HL) : SameBut [] cells s t where
  keepsRegs r _ := by
    cases r
    case H => simpa [State.read16] using congrArg hiByte hHL
    case L => simpa [State.read16] using congrArg loByte hHL
    all_goals exact h.keepsRegs _ (by simp)
  keepsCells := h.keepsCells

/-! ## Completion with an effect -/

section
variable {i : Instr} {s : State} {nextPc : Word} {cycles : Nat}

/-- An instruction that loads a register completes: that register holds the value, the rest is as it was. -/
theorem completes_of_load {r : Reg8} {v : Byte} (hr : r ≠ .F)
    (h : exec i s = .next ((s.write8 r v).commit nextPc cycles)) :
    ∃ t, Completes i s t nextPc cycles ∧ t.read8 r = v ∧ SameBut [r] [] s t ∧ t.sp = s.sp :=
  ⟨_, .of_commit h (by simp) (by simp), by simp [State.read8_write8, hr], (SameBut.write8 s r v).commit _ _, by simp⟩

/-- An instruction that stores a byte completes: that cell holds the value, the rest is as it was. -/
theorem completes_of_store {a : Word} {v : Byte} (hm : s.mem.wf = true)
    (h : exec i s = .next ((s.busWrite a v).commit nextPc cycles)) :
    ∃ t, Completes i s t nextPc cycles ∧ t.busRead a = v ∧ SameBut [] [a] s t ∧ t.sp = s.sp :=
  ⟨_, .of_commit h rfl rfl, by simp [State.busRead_busWrite hm], (SameBut.busWrite hm a v).commit _ _, rfl⟩

end

end Sys2Proof.Machine
end

section
/-! PROOFS. LD, 8-bit forms (41_ld8.md R90 to R104; O29 to O40). -/

namespace Sys2Proof

/-- `F` is no register an instruction names (30_encoding.md R53). -/
theorem Gpr.reg_ne_F (r : Gpr) : r.reg ≠ .F := by
  cases r <;> nofun

end Sys2Proof

namespace Sys2Proof.Machine

/-! ## The forms selected by a register -/

theorem exec_ldRR (d r : Gpr) (s : State) : exec (.ldRR d r) s = ldRR d.reg r.reg s := by
  cases d <;> cases r <;> rfl

theorem exec_ldRmHL (d : Gpr) (s : State) : exec (.ldRmHL d) s = ldRmHL d.reg s := by
  cases d <;> rfl

theorem exec_ldmHLR (r : Gpr) (s : State) : exec (.ldmHLR r) s = ldmHLR r.reg s := by
  cases r <;> rfl

theorem exec_ldRn8 (d : Gpr) (n8 : Byte) (s : State) : exec (.ldRn8 n8 d) s = ldRn8 d.reg n8 s := by
  cases d <;> rfl

/-- Settles O30: the opcodes by the fields of R60, the rest as for every load; 0x76 is the encoding of `HALT`. -/
theorem ldRegRegCopies : Obligations.LdRegRegCopies := by
  refine ⟨decodeOfEncode .halt [] rfl, fun d r s => ⟨?_, ?_⟩⟩
  · cases d <;> cases r <;> exact .of_first_byte rfl (by decide) rfl
  · exact completes_of_load d.reg_ne_F ((exec_ldRR d r s).trans (ldRR_eq ..))

/-- Settles O31: the byte is read before the load writes, so `H` and `L` are no exception. -/
theorem ldRegFromHLLoads : Obligations.LdRegFromHLLoads := by
  refine fun d s => ⟨?_, ?_⟩
  · cases d <;> exact .of_first_byte rfl (by decide) rfl
  · exact completes_of_load d.reg_ne_F ((exec_ldRmHL d s).trans (ldRmHL_eq ..))

/-- Settles O32: as for every store. -/
theorem ldRegToHLStores : Obligations.LdRegToHLStores := by
  refine fun r s hm => ⟨?_, ?_⟩
  · cases r <;> exact .of_first_byte rfl (by decide) rfl
  · exact completes_of_store hm ((exec_ldmHLR r s).trans (ldmHLR_eq ..))

/-- Settles O33: as for every load. -/
theorem ldRegImmLoads : Obligations.LdRegImmLoads := by
  refine fun d n8 s => ⟨?_, ?_⟩
  · cases d <;> exact .of_first_byte rfl (by decide) rfl
  · exact completes_of_load d.reg_ne_F ((exec_ldRn8 d n8 s).trans (ldRn8_eq ..))

/-! ## The forms with an immediate or absolute operand -/

/-- Settles O34: as for every store. -/
theorem ldImmToHLStores : Obligations.LdImmToHLStores := fun n8 s hm =>
  ⟨.of_first_byte rfl (by decide) rfl, completes_of_store hm (ldmHLn8_eq n8 s)⟩

/-- Settles O39: as for every store. -/
theorem ldAToAbsoluteStores : Obligations.LdAToAbsoluteStores := fun a16 s hm =>
  ⟨.of_first_byte rfl (by decide) rfl, completes_of_store hm (ldma16A_eq a16 s)⟩

/-- Settles O40: as for every load. -/
theorem ldAFromAbsoluteLoads : Obligations.LdAFromAbsoluteLoads := fun a16 s =>
  ⟨.of_first_byte rfl (by decide) rfl, completes_of_load nofun (ldAma16_eq a16 s)⟩

/-! ## The forms with the address in a pair -/

/-- Settles O35: the adjust of these forms is none, so each is a store. -/
theorem ldAToPairAddressStores : Obligations.LdAToPairAddressStores := by
  refine fun s hm => List.forall_mem_cons.mpr ⟨?_, List.forall_mem_singleton.mpr ?_⟩
  · exact ⟨.of_first_byte rfl (by decide) rfl, completes_of_store hm (ldmPairA_eq .BC .none s)⟩
  · exact ⟨.of_first_byte rfl (by decide) rfl, completes_of_store hm (ldmPairA_eq .DE .none s)⟩

/-- Settles O37: the adjust of these forms is none, so each is a load. -/
theorem ldAFromPairAddressLoads : Obligations.LdAFromPairAddressLoads := by
  refine fun s => List.forall_mem_cons.mpr ⟨?_, List.forall_mem_singleton.mpr ?_⟩
  · exact ⟨.of_first_byte rfl (by decide) rfl, completes_of_load nofun (ldAmPair_eq .BC .none s)⟩
  · exact ⟨.of_first_byte rfl (by decide) rfl, completes_of_load nofun (ldAmPair_eq .DE .none s)⟩

/-! ## The forms that move `HL` -/

/-- By how much an adjust moves `HL` (`State.read16_HL_adjustHL_add`). -/
def moveOf : Adjust → Word
  | .none => 0
  | .inc => 1
  | .dec => -1

/-- The adjust adds to `HL` modulo 2^16 (40_step_decode_resolve.md R79). -/
theorem State.read16_HL_adjustHL_add (s : State) (adj : Adjust) :
    (s.adjustHL adj).read16 .HL = s.read16 .HL + moveOf adj := by
  rw [State.read16_HL_adjustHL]
  cases adj with
  | none => exact (BitVec.add_zero _).symm
  | inc => rfl
  | dec => exact sub_eq_add_neg _ _

section
variable {i : Instr} {s : State} {adj : Adjust}

/-- A store of `A` at `HL` with an adjust: the store reaches the old `HL`. -/
theorem completes_of_store_adjust (hm : s.mem.wf = true) (h : exec i s = ldmPairA .HL adj s) :
    ∃ t, Completes i s t (s.pc + 1) 8 ∧ t.busRead (s.read16 .HL) = s.read8 .A ∧
      t.read16 .HL = s.read16 .HL + moveOf adj ∧ SameBut [.H, .L] [s.read16 .HL] s t ∧ t.sp = s.sp := by
  refine ⟨_, .of_commit (h.trans (ldmPairA_eq ..)) (by simp) (by simp), ?_, ?_, ?_, by simp⟩
  · rw [State.busRead_commit, State.busRead_adjustHL, State.busRead_busWrite hm, if_pos rfl]
    rfl
  · exact State.read16_HL_adjustHL_add ..
  · exact ((SameBut.busWrite hm _ _).trans (.adjustHL _ adj)).commit _ _

/-- A load of `A` from `HL` with an adjust: the load is from the old `HL`, and the adjust leaves `A`. -/
theorem completes_of_load_adjust (h : exec i s = ldAmPair .HL adj s) :
    ∃ t, Completes i s t (s.pc + 1) 8 ∧ t.read8 .A = s.busRead (s.read16 .HL) ∧
      t.read16 .HL = s.read16 .HL + moveOf adj ∧ SameBut [.A, .H, .L] [] s t ∧ t.sp = s.sp := by
  refine ⟨_, .of_commit (h.trans (ldAmPair_eq ..)) (by simp) (by simp), ?_, ?_, ?_, by simp⟩
  · simp [State.read8]
  · exact State.read16_HL_adjustHL_add ..
  · exact ((SameBut.write8 s .A _).trans (.adjustHL _ adj)).commit _ _

end

/-- Settles O36: the two adjusts of `completes_of_store_adjust`. -/
theorem ldAToHLAdjustsAfterStore : Obligations.LdAToHLAdjustsAfterStore := by
  refine fun s hm => List.forall_mem_cons.mpr ⟨?_, List.forall_mem_singleton.mpr ?_⟩
  · exact ⟨.of_first_byte rfl (by decide) rfl, completes_of_store_adjust (adj := .inc) hm rfl⟩
  · exact ⟨.of_first_byte rfl (by decide) rfl, completes_of_store_adjust (adj := .dec) hm rfl⟩

/-- Settles O38: the two adjusts of `completes_of_load_adjust`. -/
theorem ldAFromHLAdjustsAfterLoad : Obligations.LdAFromHLAdjustsAfterLoad := by
  refine fun s => List.forall_mem_cons.mpr ⟨?_, List.forall_mem_singleton.mpr ?_⟩
  · exact ⟨.of_first_byte rfl (by decide) rfl, completes_of_load_adjust (adj := .inc) rfl⟩
  · exact ⟨.of_first_byte rfl (by decide) rfl, completes_of_load_adjust (adj := .dec) rfl⟩

/-- Settles O29: the second store goes to the cell above the first, so it leaves the first one's byte, and its adjust
undoes the first one's. -/
theorem storeIncrementThenDecrementRestoresHL : Obligations.StoreIncrementThenDecrementRestoresHL := by
  intro s hm
  obtain ⟨t, ht, htcell, htHL, htsame, htsp⟩ :=
    completes_of_store_adjust (i := .ld_mHLi_A) (adj := .inc) hm rfl
  obtain ⟨u, hu, hucell, huHL, husame, husp⟩ :=
    completes_of_store_adjust (i := .ld_mHLd_A) (adj := .dec) (exec_mem_wf ht.answers hm) rfl
  change t.read16 .HL = s.read16 .HL + 1 at htHL
  rw [htHL] at hucell huHL husame
  have hHL : u.read16 .HL = s.read16 .HL := huHL.trans (add_neg_cancel_right _ _)
  have hA : t.read8 .A = s.read8 .A := htsame.keepsRegs .A (by decide)
  have hfirst : u.busRead (s.read16 .HL) = t.busRead (s.read16 .HL) :=
    husame.keepsCells _ (by simp)
  have hsame : SameBut [.H, .L] [s.read16 .HL, s.read16 .HL + 1] s u :=
    (htsame.trans husame).mono (by decide) (List.Subset.refl _)
  refine ⟨t, u, ht.answers, hu.answers, hHL, hfirst.trans htcell, hucell.trans hA, hsame.of_read16_HL hHL,
    husp.trans htsp, ?_, hu.run.trans ht.run, hu.err.trans ht.err⟩
  rw [hu.pc, ht.pc, BitVec.add_assoc]
  rfl

end Sys2Proof.Machine
end

section
/-! PROOFS. LD, 16-bit forms (42_ld16.md R110 to R114; O41 to O44). -/

namespace Sys2Proof

theorem toNat_loByte (v : Word) : (loByte v).toNat = v.toNat % 256 := by
  simp [loByte]

theorem toNat_loNibble (v : Byte) : (loNibble v).toNat = v.toNat % 16 := by
  simp [loNibble]

end Sys2Proof

namespace Sys2Proof.Machine

/-! ## The form selected by a pair -/

theorem exec_ldR16n16 (d : PairSP) (n16 : Word) (s : State) : exec (.ldR16n16 n16 d) s = ldR16n16 d.reg n16 s := by
  cases d <;> rfl

/-- The commit writes `PC`, which is no pair of this form (40_step_decode_resolve.md R80). -/
theorem State.read16_reg_commit (s : State) (d : PairSP) (nextPc : Word) (cycles : Nat) :
    (s.commit nextPc cycles).read16 d.reg = s.read16 d.reg := by
  cases d <;> rfl

/-- Unlike `AF`, the pairs of this form hold all 16 bits written (10_state.md R11, R12, R16). -/
theorem State.read16_reg_write16 (s : State) (d : PairSP) (v : Word) : (s.write16 d.reg v).read16 d.reg = v := by
  cases d
  case SP => rfl
  all_goals exact pair_hiByte_loByte v

/-- A pair write is a write of its two halves, and `SP` has none (10_state.md R11, R12). -/
theorem SameBut.write16 (s : State) (d : PairSP) (v : Word) : SameBut (halvesOf d) [] s (s.write16 d.reg v) := by
  cases d
  case SP => exact ⟨fun _ _ => rfl, fun _ _ => rfl⟩
  all_goals exact (SameBut.write8 s _ _).trans (.write8 _ _ _)

/-- Settles O41: `SP` is kept by the writes of the other three pairs. -/
theorem ldPairImmLoads : Obligations.LdPairImmLoads := by
  refine fun d n16 s => ⟨?_, _, .of_commit ((exec_ldR16n16 d n16 s).trans (ldR16n16_eq ..)) (by simp) (by simp),
    (State.read16_reg_commit ..).trans (s.read16_reg_write16 d n16), (SameBut.write16 s d n16).commit _ _,
    fun hd => ?_⟩
  · cases d <;> exact .of_first_byte rfl (by decide) rfl
  · cases d
    case SP => exact absurd rfl hd
    all_goals rfl

/-! ## The forms that store or load `SP` -/

/-- Settles O42: the two cells are those of the 16-bit write (`word16AccessIsLittleEndian`). -/
theorem ldSPToAbsoluteStores : Obligations.LdSPToAbsoluteStores := by
  intro a16 s hm
  obtain ⟨-, -, hlow, hhigh, hsame, -⟩ := word16AccessIsLittleEndian s a16 s.sp hm
  exact ⟨.of_first_byte rfl (by decide) rfl, _, .of_commit (ldma16SP_eq a16 s) rfl rfl, hlow, hhigh,
    hsame.commit _ _, rfl⟩

/-- Settles O43: `SP` overlays no 8-bit register. -/
theorem ldSPFromHLCopies : Obligations.LdSPFromHLCopies := fun s =>
  ⟨.of_first_byte rfl (by decide) rfl, _, .of_commit (ldSPHL_eq s) rfl rfl, rfl,
    (SameBut.write16 s .SP _).commit _ _⟩

/-! ## `LD HL,SP+e8` -/

/-- The flags of `LD HL,SP+e8` change `F` only (42_ld16.md R114). -/
theorem SameBut.flagsSPe8 (s : State) (sp : Word) (e8 : Byte) : SameBut [.F] [] s (s.flagsSPe8 sp e8) where
  keepsRegs r hr := by
    cases r
    case F => exact absurd List.mem_cons_self hr
    all_goals rfl
  keepsCells _ _ := rfl

/-- Each flag after `LD HL,SP+e8` (42_ld16.md R114). -/
theorem State.getFlag_flagsSPe8 (s : State) (sp : Word) (e8 : Byte) (fl : Flag) :
    (s.flagsSPe8 sp e8).getFlag fl = match fl with
      | .Z | .N => false
      | .H => decide (sp.toNat % 16 + e8.toNat % 16 > 0x0F)
      | .C => decide (sp.toNat % 256 + e8.toNat > 0xFF) := by
  have hH : lowNibbleCarry (loByte sp) e8 = decide (sp.toNat % 16 + e8.toNat % 16 > 0x0F) := by
    rw [lowNibbleCarry, toNat_loNibble, toNat_loNibble, toNat_loByte, Nat.mod_mod_of_dvd _ (by decide)]
  have hC : lowByteCarry (loByte sp) e8 = decide (sp.toNat % 256 + e8.toNat > 0xFF) := by
    rw [lowByteCarry, toNat_loByte]
  rw [State.flagsSPe8, hH, hC]
  cases fl <;> simp [State.getFlag_setFlag]

/-- Settles O44: `HL` takes the sum, the flags are `State.getFlag_flagsSPe8`, and `F` is masked as in every state. -/
theorem ldHLFromSPPlusOffset : Obligations.LdHLFromSPPlusOffset := by
  intro e8 s
  have hflag := (s.write16 .HL (s.sp + sext16 e8)).getFlag_flagsSPe8 s.sp e8
  exact ⟨.of_first_byte rfl (by decide) rfl, _, .of_commit (ldHLSPe8_eq e8 s) rfl rfl, s.read16_reg_write16 .HL _,
    hflag .Z, hflag .N, hflag .H, hflag .C, mask_low_clear _,
    ((SameBut.write16 s .HL _).trans (.flagsSPe8 _ s.sp e8)).commit _ _, rfl⟩

end Sys2Proof.Machine
end

section
/-! PROOFS. LDH (43_ldh.md R120 to R124; O45, O46). -/

namespace Sys2Proof.Machine

/-- The high page is the addresses with high byte `0xFF`: the sum of R120 does not carry. -/
theorem highPage_eq_pair (offset : Byte) : highPage offset = pair 0xFF offset := by
  have hlt : offset.toNat < 2 ^ 8 := offset.isLt
  apply BitVec.eq_of_toNat_eq
  calc (highPage offset).toNat
    _ = 0xFF00 + offset.toNat := by
      rw [highPage, zext16, BitVec.toNat_add, BitVec.toNat_setWidth, show (0xFF00 : Word).toNat = 0xFF00 from rfl]
      omega
    _ = 0xFF <<< 8 ||| offset.toNat := Nat.shiftLeft_add_eq_or_of_lt hlt 0xFF
    _ = (pair 0xFF offset).toNat := (BitVec.toNat_append (0xFF : Byte) offset).symm

/-- Settles O45: each form is a store, and `C` is read as the offset before it. -/
theorem ldhStoresToHighPage : Obligations.LdhStoresToHighPage := fun a8 s hm =>
  ⟨highPage_eq_pair a8,
    .of_first_byte rfl (by decide) rfl, completes_of_store hm (ldhStore_eq a8 2 12 s),
    .of_first_byte rfl (by decide) rfl, completes_of_store hm (ldhStore_eq (s.read8 .C) 1 8 s)⟩

/-- Settles O46: each form is a load of `A`. -/
theorem ldhLoadsFromHighPage : Obligations.LdhLoadsFromHighPage := fun a8 s =>
  ⟨highPage_eq_pair a8,
    .of_first_byte rfl (by decide) rfl, completes_of_load nofun (ldhLoad_eq a8 2 12 s),
    .of_first_byte rfl (by decide) rfl, completes_of_load nofun (ldhLoad_eq (s.read8 .C) 1 8 s)⟩

end Sys2Proof.Machine
end

section
/-! PROOFS. JP and JR (44_jp_jr.md R130 to R134; O47 to O51). -/

namespace Sys2Proof.Machine

/-! ## Completion with the commit alone -/

section
variable {i : Instr} {s : State}

/-- An instruction whose only effect is its commit completes: `PC` is written, the rest is as it was
(40_step_decode_resolve.md R80). -/
theorem completes_of_commit {nextPc : Word} {cycles : Nat} (h : exec i s = .next (s.commit nextPc cycles)) :
    ∃ t, Completes i s t nextPc cycles ∧ SameBut [] [] s t ∧ t.sp = s.sp :=
  ⟨_, .of_commit h rfl rfl, (SameBut.refl [] [] s).commit _ _, rfl⟩

/-- An instruction that only chooses between two commits makes one commit, of the `PC` and the cost chosen. -/
theorem completes_of_commit_ite {c : Prop} [Decidable c] {target next : Word} {whenTaken otherwise : Nat}
    (h : exec i s = .next (if c then s.commit target whenTaken else s.commit next otherwise)) :
    ∃ t, Completes i s t (if c then target else next) (if c then whenTaken else otherwise) ∧
      SameBut [] [] s t ∧ t.sp = s.sp :=
  completes_of_commit (h.trans (congrArg _ (apply_ite₂ s.commit c target next whenTaken otherwise).symm))

end

/-! ## The unconditional forms -/

/-- Settles O47: the commit is to the immediate. -/
theorem jpAbsoluteJumps : Obligations.JpAbsoluteJumps := fun a16 s =>
  ⟨.of_first_byte rfl (by decide) rfl, completes_of_commit (jpA16_eq a16 s)⟩

/-- Settles O49: the commit is to `HL` as a register pair; memory is not read. -/
theorem jpHLJumps : Obligations.JpHLJumps := fun s =>
  ⟨.of_first_byte rfl (by decide) rfl, completes_of_commit (jpHL_eq s)⟩

/-- Settles O50: the commit is to the displacement from the following instruction. -/
theorem jrJumpsRelative : Obligations.JrJumpsRelative := fun e8 s =>
  ⟨.of_first_byte rfl (by decide) rfl, completes_of_commit (jrE8_eq e8 s)⟩

/-! ## The forms selected by a condition -/

theorem exec_jpCC (cc : Cond) (a16 : Word) (s : State) : exec (.jpCC a16 cc) s = jpCC cc a16 s := by
  cases cc <;> rfl

theorem exec_jrCC (cc : Cond) (e8 : Byte) (s : State) : exec (.jrCC e8 cc) s = jrCC cc e8 s := by
  cases cc <;> rfl

/-- Settles O48: the opcodes by the field of R55, the rest as for every choice between two commits. -/
theorem jpConditionalJumps : Obligations.JpConditionalJumps := by
  refine fun cc a16 s => ⟨?_, ?_⟩
  · cases cc <;> exact .of_first_byte rfl (by decide) rfl
  · exact completes_of_commit_ite ((exec_jpCC cc a16 s).trans (jpCC_eq ..))

/-- Settles O51: as for `JP cc,a16`, with the target of a relative jump. -/
theorem jrConditionalJumps : Obligations.JrConditionalJumps := by
  refine fun cc e8 s => ⟨?_, ?_⟩
  · cases cc <;> exact .of_first_byte rfl (by decide) rfl
  · exact completes_of_commit_ite ((exec_jrCC cc e8 s).trans (jrCC_eq ..))

end Sys2Proof.Machine
end

section
/-! PROOFS. CALL, RST and PUSH (45_call_rst_push.md R140 to R145; O52 to O55). -/

namespace Sys2Proof.Machine

/-! ## Completion with a push -/

/-- A push and the commit behind it leave the value at the new `SP` and change nothing else (45_call_rst_push.md R140). -/
theorem Pushed.push16_commit {s : State} (hm : s.mem.wf = true) (v nextPc : Word) (cycles : Nat) :
    Pushed v s ((s.push16 v).commit nextPc cycles) where
  sp := rfl
  low := by
    rw [State.busRead_commit, State.busRead_push16 hm, if_neg (succ_ne_self _).symm, if_pos rfl]
  high := by
    rw [State.busRead_commit, State.busRead_push16 hm, if_pos rfl]
  same := (SameBut.push16 hm v).commit _ _

/-- An instruction that pushes a value completes, with that value pushed. -/
theorem completes_of_push {i : Instr} {s : State} {v nextPc : Word} {cycles : Nat} (hm : s.mem.wf = true)
    (h : exec i s = .next ((s.push16 v).commit nextPc cycles)) :
    ∃ t, Completes i s t nextPc cycles ∧ Pushed v s t :=
  ⟨_, .of_commit h rfl rfl, .push16_commit hm v nextPc cycles⟩

/-! ## The forms selected by an operand -/

theorem exec_callCC (cc : Cond) (a16 : Word) (s : State) : exec (.callCC a16 cc) s = callCC cc a16 s := by
  cases cc <;> rfl

/-- The vector of a restart is 8 times its field (45_call_rst_push.md R143). -/
theorem exec_rstT (v : BitVec 3) (s : State) : exec (.rstT v) s = rstVec (BitVec.ofNat 16 (8 * v.toNat)) s := by
  rcases field3_cases v with rfl | rfl | rfl | rfl | rfl | rfl | rfl | rfl <;> rfl

theorem exec_pushP (p : PairAF) (s : State) : exec (.pushP p) s = pushPair p.reg s := by
  cases p <;> rfl

/-! ## The statements -/

/-- Settles O52: the value pushed is the address behind the instruction. -/
theorem callPushesReturnAddress : Obligations.CallPushesReturnAddress := fun a16 s hm =>
  ⟨.of_first_byte rfl (by decide) rfl, completes_of_push hm (callA16_eq a16 s)⟩

/-- Settles O53: taken it pushes as `CALL a16` does, not taken it only commits. -/
theorem callConditionalPushesWhenTaken : Obligations.CallConditionalPushesWhenTaken := by
  refine fun cc a16 s hm => ⟨?_, ?_⟩
  · cases cc <;> exact .of_first_byte rfl (by decide) rfl
  · have h := (exec_callCC cc a16 s).trans (callCC_eq ..)
    by_cases taken : s.cond cc = true
    · simp only [if_pos taken] at h ⊢
      exact completes_of_push hm h
    · simp only [if_neg taken] at h ⊢
      exact completes_of_commit h

/-- Settles O54: the opcodes by the field of R56, the rest as for every push. -/
theorem rstPushesAndVectors : Obligations.RstPushesAndVectors := by
  refine fun v s hm => ⟨?_, ?_⟩
  · rcases field3_cases v with rfl | rfl | rfl | rfl | rfl | rfl | rfl | rfl <;>
      exact .of_first_byte rfl (by decide) rfl
  · exact completes_of_push hm ((exec_rstT v s).trans (rstVec_eq ..))

/-- Settles O55: the value pushed is the pair as it stood, `AF` with `F` masked. -/
theorem pushStoresPair : Obligations.PushStoresPair := by
  refine fun p s hm => ⟨?_, ?_⟩
  · cases p <;> exact .of_first_byte rfl (by decide) rfl
  · exact completes_of_push hm ((exec_pushP p s).trans (pushPair_eq ..))

end Sys2Proof.Machine
end

section
/-! PROOFS. NOP, the unimplemented, the prefixed and the illegal (46_nop_unimplemented_illegal.md R150 to R156; O56 to
O59). -/

namespace Sys2Proof

/-! ## Prefixed instructions -/

/-- Behind `0xCB` the key of an instruction is its second byte (30_encoding.md R58, R63). -/
theorem key_of_prefixed {i : Instr} {b1 : Byte} (h : encode i = [0xCB, b1]) : i.key = (true, b1) := by
  unfold Instr.key
  rw [h]
  rfl

/-- The two bytes of a prefixed instruction decode to it: they are not the one byte of `prefixCB`. -/
theorem decode_of_prefixed {i : Instr} {b1 : Byte} (h : encode i = [0xCB, b1]) :
    decode [0xCB, b1] = .ok (i, []) := by
  have hwf : i ≠ .prefixCB := by
    rintro rfl
    cases h
  simpa only [h, List.append_nil] using decodeOfEncode i [] (decide_eq_true hwf)

end Sys2Proof

namespace Sys2Proof.Machine

/-! ## Stopping by the catalog entry -/

/-- An instruction of no modeled family does not complete and does not halt: it faults with its key (R152). -/
theorem stopsWith_of_unmodeled {i : Instr} (h : i.spec.mnemonic.modeled = false ∧ i.spec.mnemonic ≠ .ILLEGAL)
    (s : State) :
    ∃ t, StopsWith i s t .faulted (.unimplementedMnemonic s.pc i.key.1 i.key.2)
      (.err (.unimplementedMnemonic s.pc i.key.1 i.key.2)) := by
  obtain ⟨hmodeled, hlegal⟩ := h
  obtain ⟨t, ht, hran⟩ := exec_ran i s
  cases hran with
  | completes modeled _ _ => exact absurd (hmodeled.symm.trans modeled) Bool.false_ne_true
  | halts _ illegal => exact absurd illegal hlegal
  | faults _ => exact ⟨_, .of_takeStop ht⟩

/-- An instruction whose entry is illegal does not complete and does not fault: it halts the core at its opcode (R155). -/
theorem stopsWith_of_illegal {i : Instr} (h : i.spec.mnemonic = .ILLEGAL) (s : State) :
    ∃ t, StopsWith i s t .halted (.illegalOpcode s.pc i.key.2) (.ok ⟨0, true⟩) := by
  obtain ⟨t, ht, hran⟩ := exec_ran i s
  cases hran with
  | completes modeled _ _ =>
    rw [h] at modeled
    cases modeled
  | halts _ _ => exact ⟨_, .of_takeStop ht⟩
  | faults unmodeled => exact absurd h unmodeled.2

/-! ## The rows -/

/-- Each unimplemented row has its opcode as first byte, whatever the immediate behind it (30_encoding.md R61). -/
theorem head_encode_of_mem_unimplementedRows {n8 : Byte} {p : Instr × Byte} (hp : p ∈ unimplementedRows n8) :
    (encode p.1).head? = some p.2 := by
  have hheads : (unimplementedRows n8).map (fun p => (encode p.1).head?) =
      (unimplementedRows n8).map (fun p => some p.2) := rfl
  exact List.map_inj_left.mp hheads p hp

/-- The entry at each unimplemented opcode is no modeled family and not illegal (30_encoding.md R61). -/
theorem unmodeled_of_mem_unimplementedRows {n8 : Byte} {p : Instr × Byte} (hp : p ∈ unimplementedRows n8) :
    p.2 ≠ 0xCB ∧ (Catalog.unprefixed p.2).mnemonic.modeled = false ∧ (Catalog.unprefixed p.2).mnemonic ≠ .ILLEGAL := by
  -- the opcodes are the same at every immediate
  have hsame : (unimplementedRows n8).map Prod.snd = (unimplementedRows 0).map Prod.snd := rfl
  have hopcode : p.2 ∈ (unimplementedRows 0).map Prod.snd := hsame ▸ List.mem_map_of_mem hp
  have hentries : ∀ b ∈ (unimplementedRows 0).map Prod.snd, b ≠ 0xCB ∧
      (Catalog.unprefixed b).mnemonic.modeled = false ∧ (Catalog.unprefixed b).mnemonic ≠ .ILLEGAL := by
    decide
  exact hentries p.2 hopcode

/-- Each prefixed row is `0xCB` and its second byte (30_encoding.md R63). -/
theorem encode_of_mem_prefixedRows {b3 : BitVec 3} {r8 : Operand8} {p : Instr × Byte} (hp : p ∈ prefixedRows b3 r8) :
    encode p.1 = [0xCB, p.2] := by
  have hwords : (prefixedRows b3 r8).map (fun p => encode p.1) = (prefixedRows b3 r8).map (fun p => [0xCB, p.2]) := rfl
  exact List.map_inj_left.mp hwords p hp

/-- The prefixed rows at a bit number and an operand have every second byte with those fields: with `x` zero the bit
number selects the group, else `x` does (30_encoding.md R63). -/
theorem exists_prefixedRows_snd_eq (x : BitVec 2) (y : BitVec 3) (r8 : Operand8) :
    ∃ p ∈ prefixedRows y r8, p.2 = byteXYZ x y r8.code := by
  have hx : x = 0 ∨ x = 1 ∨ x = 2 ∨ x = 3 := by
    revert x; decide
  rcases hx with rfl | rfl | rfl | rfl
  · rcases field3_cases y with rfl | rfl | rfl | rfl | rfl | rfl | rfl | rfl <;> simp [prefixedRows, shiftRows]
  · exact ⟨(.bit y r8, byteXYZ 1 y r8.code), by simp [prefixedRows, bitRows], rfl⟩
  · exact ⟨(.res y r8, byteXYZ 2 y r8.code), by simp [prefixedRows, bitRows], rfl⟩
  · exact ⟨(.set y r8, byteXYZ 3 y r8.code), by simp [prefixedRows, bitRows], rfl⟩

/-- Each illegal row is its one byte, at which the entry is the illegal one (30_encoding.md R62). -/
theorem encode_of_mem_illegalRows :
    ∀ p ∈ illegalRows, encode p.1 = [p.2] ∧ p.2 ≠ 0xCB ∧ Catalog.unprefixed p.2 = Catalog.illegal := by
  decide

/-! ## The statements -/

/-- Settles O57: by the rows' entries, none of which is a modeled family or illegal. -/
theorem unimplementedOpcodeFaults : Obligations.UnimplementedOpcodeFaults := by
  refine fun n8 s => ⟨rfl, fun p hp => ?_⟩
  have hhead := head_encode_of_mem_unimplementedRows hp
  obtain ⟨hb, hunmodeled⟩ := unmodeled_of_mem_unimplementedRows hp
  obtain ⟨rest, henc⟩ := List.head?_eq_some_iff.mp hhead
  rw [← spec_of_first_byte henc hb] at hunmodeled
  have hstops := stopsWith_of_unmodeled hunmodeled s
  rw [key_of_first_byte henc hb] at hstops
  exact ⟨hhead, hunmodeled.1, hunmodeled.2, hstops⟩

/-- Settles O58: no prefixed entry is a modeled family, and the fields of a second byte name its row. -/
theorem prefixedOpcodeFaults : Obligations.PrefixedOpcodeFaults := by
  refine ⟨fun b3 r8 s p hp => ?_, fun b1 => ⟨fieldY b1, Catalog.operand8 (fieldZ b1), ?_⟩⟩
  · have henc := encode_of_mem_prefixedRows hp
    have hkey := key_of_prefixed henc
    have hspec : p.1.spec = Catalog.cbPrefixed p.2 := by
      rw [Instr.spec, hkey]
      rfl
    have hstops := stopsWith_of_unmodeled (hspec ▸ cbPrefixed_unmodeled p.2) s
    rw [hkey] at hstops
    exact ⟨henc, decode_of_prefixed henc, hstops⟩
  · have hrow := exists_prefixedRows_snd_eq (fieldX b1) (fieldY b1) (Catalog.operand8 (fieldZ b1))
    rwa [code_operand8, byteXYZ_fields] at hrow

/-- Settles O59: by the rows' entries, all of them the illegal one. -/
theorem illegalOpcodeHalts : Obligations.IllegalOpcodeHalts := by
  refine fun s => ⟨rfl, fun p hp => ?_⟩
  obtain ⟨henc, hb, hentry⟩ := encode_of_mem_illegalRows p hp
  have hencoded : EncodedAs p.1 [p.2] Catalog.illegal := .of_first_byte henc hb hentry
  have hstops := stopsWith_of_illegal (congrArg InstructionSpec.mnemonic hencoded.catalog) s
  rw [key_of_first_byte henc hb] at hstops
  exact ⟨hencoded, hstops⟩

/-- Settles O56: `NOP` only commits, and its step fetches one byte and has no data access. -/
theorem nopAdvancesOnly : Obligations.NopAdvancesOnly := by
  refine fun s => ⟨.of_first_byte rfl (by decide) rfl, completes_of_commit rfl, fun hrun hop => ?_⟩
  have hinstr : s.fetchInstr = .nop := by
    rw [State.fetchInstr, hop]
    rfl
  have hfetch : fetchAccesses s.pc 1 = [.fetch s.pc] := by
    simp [fetchAccesses]
  rw [stepAccesses_running hrun, hinstr, hop, show fetchCount 0x00 = 1 from rfl, hfetch]
  rfl

end Sys2Proof.Machine
end

section
/-! PROOFS. The outcomes of a step and of bring-up (60_exceptions.md R160 to R169; O6, O13, O18, O22). -/

namespace Sys2Proof

/-- A modeled family is not the illegal one (40_step_decode_resolve.md R71 phase 3). -/
theorem Mnemonic.ne_ILLEGAL_of_modeled {m : Mnemonic} (h : m.modeled = true) : m ≠ .ILLEGAL := by
  rintro rfl
  cases h

end Sys2Proof

namespace Sys2Proof.Machine

/-! ## Bring-up -/

/-- Settles O6. -/
theorem defaultCatalogIsWellFormed : Obligations.DefaultCatalogIsWellFormed :=
  ⟨defaultCatalog_firstBad, defaultCatalog_wf⟩

/-- Settles O13: behind the catalog's check stands the image's. -/
theorem oversizedImageIsRefused : Obligations.OversizedImageIsRefused := by
  intro cat p hcat himage
  rw [powerOn, hcat]
  exact if_pos himage

/-! ## A running step -/

/-- Settles O18: the ways an instruction can run, told apart by the catalog entry of the key at `PC`. -/
theorem stepOutcomesAreClassified : Obligations.StepOutcomesAreClassified := by
  intro s hrun
  obtain ⟨t, ht, hran⟩ := exec_ran s.fetchInstr s
  refine ⟨t, (step_running hrun).trans ht, ?_⟩
  cases hran with
  | completes modeled cost effect =>
    rw [State.fetchInstr_spec] at modeled cost
    rw [if_neg (Mnemonic.ne_ILLEGAL_of_modeled modeled), if_neg (by simp [modeled])]
    exact ⟨effect.run_eq.trans hrun, effect.err_eq, _, rfl, cost⟩
  | halts unprefixed illegal =>
    rw [State.fetchInstr_spec] at illegal
    rw [State.fetchInstr_key] at unprefixed ⊢
    rw [if_pos illegal, State.fetchKey_snd_of_unprefixed unprefixed]
    rfl
  | faults unmodeled =>
    rw [State.fetchInstr_spec] at unmodeled
    obtain ⟨hmodeled, hlegal⟩ := unmodeled
    rw [State.fetchInstr_key, if_neg hlegal, if_pos hmodeled]
    rfl

/-! ## What the engine's transfers leave alone -/

/-- A write of a destination leaves `RUN` and `ERR`. -/
theorem writeDest_run_err {b : Binding} {v : Value} {s t : State} (h : writeDest b v s = some t) :
    t.run = s.run ∧ t.err = s.err := by
  unfold writeDest at h
  split at h <;> cases h <;> simp

/-- The deferred adjusts leave `RUN` and `ERR`. -/
theorem applyAdjusts_run_err (bs : List Binding) (s : State) :
    (applyAdjusts bs s).run = s.run ∧ (applyAdjusts bs s).err = s.err := by
  unfold applyAdjusts
  induction bs generalizing s with
  | nil => exact ⟨rfl, rfl⟩
  | cons b bs ih =>
    rw [List.foldl_cons]
    cases b with
    | addr a adj => simpa using ih (s.adjustHL adj)
    | _ => exact ih s

/-! ## The operand lists of R83 -/

/-- A transfer between the two operands always succeeds: the source has a value, of a width the destination takes. -/
def Moves (dst src : OperandSpec) : Prop :=
  ∀ (s : State) (base : Word), ∃ v t,
    readSource (resolve src s base) s = some v ∧ writeDest (resolve dst s base) v s = some t

theorem exists_r8_of_isR8 {o : OperandSpec} (h : isR8 o = true) : ∃ r, o = .r8 r := by
  obtain ⟨r, -, hr⟩ := List.any_eq_true.mp h
  exact ⟨r, eq_of_beq hr⟩

theorem exists_cond_of_isCC {o : OperandSpec} (h : isCC o = true) : ∃ cc, o = .cond cc := by
  obtain ⟨cc, -, hcc⟩ := List.any_eq_true.mp h
  exact ⟨cc, eq_of_beq hcc⟩

/-- A jump's operand list: its target, or a condition before it. -/
theorem condShape_cases {target : OperandSpec} {ops : List OperandSpec} (h : condShape target ops = true) :
    ops = [target] ∨ ∃ cc, ops = [.cond cc, target] := by
  unfold condShape at h
  split at h
  · exact .inl (by rw [eq_of_beq h])
  · rw [Bool.and_eq_true] at h
    obtain ⟨hcc, htarget⟩ := h
    obtain ⟨cc, rfl⟩ := exists_cond_of_isCC hcc
    exact .inr ⟨cc, by rw [eq_of_beq htarget]⟩
  · cases h

/-- The operand lists of `LD`, row by row of R83: two operands a value moves between, or those of `LD HL,SP+e8`. -/
theorem ldShape_cases {ops : List OperandSpec} (h : ldShape ops = true) :
    (∃ dst src, ops = [dst, src] ∧ Moves dst src) ∨ ops = [.r16 .HL, .r16 .SP, .e8] := by
  unfold ldShape at h
  split at h
  case h_1 dst src =>
    refine .inl ⟨dst, src, rfl, fun s base => ?_⟩
    simp only [Bool.or_eq_true, Bool.and_eq_true, beq_iff_eq, List.contains_iff_mem, List.mem_cons, List.not_mem_nil,
      or_false] at h
    obtain (((((⟨hdst, hsrc⟩ | ⟨rfl, hsrc⟩) | ⟨hdst, rfl⟩) | ⟨rfl, hsrc⟩) | ⟨hdst, rfl⟩) | ⟨rfl, rfl⟩) | ⟨rfl, rfl⟩ := h
    · obtain ⟨r, rfl⟩ := exists_r8_of_isR8 hdst
      obtain (hsrc | rfl) | rfl := hsrc
      · obtain ⟨r', rfl⟩ := exists_r8_of_isR8 hsrc
        exact ⟨_, _, rfl, rfl⟩
      · exact ⟨_, _, rfl, rfl⟩
      · exact ⟨_, _, rfl, rfl⟩
    · obtain hsrc | rfl := hsrc
      · obtain ⟨r, rfl⟩ := exists_r8_of_isR8 hsrc
        exact ⟨_, _, rfl, rfl⟩
      · exact ⟨_, _, rfl, rfl⟩
    · obtain rfl | rfl | rfl | rfl | rfl := hdst <;> exact ⟨_, _, rfl, rfl⟩
    · obtain rfl | rfl | rfl | rfl | rfl := hsrc <;> exact ⟨_, _, rfl, rfl⟩
    · obtain rfl | rfl | rfl | rfl := hdst <;> exact ⟨_, _, rfl, rfl⟩
    · exact ⟨_, _, rfl, rfl⟩
    · exact ⟨_, _, rfl, rfl⟩
  case h_2 =>
    simp only [Bool.and_eq_true, beq_iff_eq] at h
    obtain ⟨⟨rfl, rfl⟩, rfl⟩ := h
    exact .inr rfl
  case h_3 => cases h

/-- The operand lists of `LDH`: `A` and a high-page cell. -/
theorem ldhShape_cases {ops : List OperandSpec} (h : ldhShape ops = true) :
    ∃ dst src, ops = [dst, src] ∧ Moves dst src := by
  unfold ldhShape at h
  split at h
  case h_1 dst src =>
    refine ⟨dst, src, rfl, fun s base => ?_⟩
    simp only [Bool.or_eq_true, Bool.and_eq_true, beq_iff_eq, List.contains_iff_mem, List.mem_cons, List.not_mem_nil,
      or_false] at h
    obtain ⟨rfl | rfl, rfl⟩ | ⟨rfl, rfl | rfl⟩ := h <;> exact ⟨_, _, rfl, rfl⟩
  case h_2 => cases h

/-! ## A modeled family on an operand list of its own -/

/-- The family of `d` has an answer, in which the core still runs as it did. -/
def Continues (d : DecodedInstruction) (s : State) : Prop :=
  ∃ r, runFamily d s = some r ∧ r.state.run = s.run ∧ r.state.err = s.err

/-- The transfer of `LD` and `LDH` with its deferred adjusts (40_step_decode_resolve.md R75, R79). -/
theorem runFamily_of_transfer {d : DecodedInstruction} {dst src : Binding} {v : Value} {s t : State}
    (hm : d.mnemonic = .LD ∨ d.mnemonic = .LDH) (hbindings : d.bindings = [dst, src])
    (hread : readSource src s = some v) (hwrite : writeDest dst v s = some t) :
    runFamily d s = some ⟨applyAdjusts d.bindings t, d.cost s, s.fallThrough d.length⟩ := by
  obtain hm | hm := hm <;>
    simp only [runFamily, hm, hbindings, hread, hwrite, Option.bind_some, Option.map_some]

/-- `LD` and `LDH` continue on operands a value moves between. -/
theorem Moves.continues {dst src : OperandSpec} {spec : InstructionSpec} (h : Moves dst src)
    (hm : spec.mnemonic = .LD ∨ spec.mnemonic = .LDH) (hops : spec.operands = [dst, src]) (key : Bool × Byte)
    (s : State) : Continues (decodeWith key spec s) s := by
  obtain ⟨v, t, hread, hwrite⟩ := h s s.pc
  obtain ⟨hrun, herr⟩ := writeDest_run_err hwrite
  have hbindings : (decodeWith key spec s).bindings = [resolve dst s s.pc, resolve src s s.pc] := by
    rw [decodeWith, hops]
    rfl
  obtain ⟨hrun', herr'⟩ := applyAdjusts_run_err (decodeWith key spec s).bindings t
  exact ⟨_, runFamily_of_transfer hm hbindings hread hwrite, hrun'.trans hrun, herr'.trans herr⟩

/-- An operand list of R83 is one its family has a case for (40_step_decode_resolve.md R81). -/
theorem continues_of_shapeOk (key : Bool × Byte) (spec : InstructionSpec) (s : State)
    (h : shapeOk spec.mnemonic spec.operands = true) : Continues (decodeWith key spec s) s := by
  obtain ⟨m, length, cycles, ops, flags⟩ := spec
  dsimp only at h
  cases m
  case NOP =>
    obtain rfl := eq_of_beq h
    exact ⟨_, rfl, rfl, rfl⟩
  case LD =>
    obtain ⟨dst, src, rfl, hmoves⟩ | rfl := ldShape_cases h
    · exact hmoves.continues (.inl rfl) rfl key s
    · exact ⟨_, rfl, rfl, rfl⟩
  case LDH =>
    obtain ⟨dst, src, rfl, hmoves⟩ := ldhShape_cases h
    exact hmoves.continues (.inr rfl) rfl key s
  case JP =>
    obtain h | h := Bool.or_eq_true_iff.mp h
    · obtain rfl | ⟨cc, rfl⟩ := condShape_cases h <;> exact ⟨_, rfl, rfl, rfl⟩
    · obtain rfl := eq_of_beq h
      exact ⟨_, rfl, rfl, rfl⟩
  case JR =>
    obtain rfl | ⟨cc, rfl⟩ := condShape_cases h <;> exact ⟨_, rfl, rfl, rfl⟩
  case CALL =>
    obtain rfl | ⟨cc, rfl⟩ := condShape_cases h
    · exact ⟨_, rfl, rfl, rfl⟩
    · cases hcc : s.cond cc
      · exact ⟨_, if_neg (by simp [hcc]), rfl, rfl⟩
      · exact ⟨_, if_pos hcc, rfl, rfl⟩
  case RST =>
    simp only [shapeOk] at h
    split at h
    · obtain ⟨v, rfl⟩ := (isVec_iff _).mp h
      exact ⟨_, rfl, rfl, rfl⟩
    · cases h
  case PUSH =>
    simp only [shapeOk] at h
    split at h
    · simp only [List.contains_iff_mem, List.mem_cons, List.not_mem_nil, or_false] at h
      obtain rfl | rfl | rfl | rfl := h <;> exact ⟨_, rfl, rfl, rfl⟩
    · cases h
  -- the other mnemonics have no operand list
  all_goals cases h

/-! ## The operand-shape fault -/

/-- A modeled entry whose operand list is none of R83 faults (60_exceptions.md R164). -/
theorem engineRun_of_not_shapeOk {cat : Catalog} {s : State}
    (h : (cat s.fetchKey.1 s.fetchKey.2).mnemonic.modeled = true)
    (hshape : shapeOk (cat s.fetchKey.1 s.fetchKey.2).mnemonic (cat s.fetchKey.1 s.fetchKey.2).operands = false) :
    engineRun cat s = s.raise (.operandShape s.pc s.fetchKey.1 s.fetchKey.2) := by
  simp only [engineRun, if_neg (Mnemonic.ne_ILLEGAL_of_modeled h), h, hshape, Bool.not_true, Bool.not_false,
    Bool.false_eq_true, if_false, if_true]

/-- Behind the run-state gate of a running core stands the engine (40_step_decode_resolve.md R86). -/
theorem stepWith_running {s : State} (h : s.run = .running) (cat : Catalog) : stepWith cat s = engineRun cat s := by
  rw [stepWith, h]

/-- An executed entry of the default catalog has an operand list of R83: the prefixed half has no such entry. -/
theorem shapeOk_defaultCatalog (isPrefixed : Bool) (opcode : Byte)
    (h : (defaultCatalog isPrefixed opcode).mnemonic.modeled = true) :
    shapeOk (defaultCatalog isPrefixed opcode).mnemonic (defaultCatalog isPrefixed opcode).operands = true := by
  cases isPrefixed with
  | false => exact shapeOk_of_modeled opcode h
  | true =>
    obtain ⟨hunmodeled, -⟩ := cbPrefixed_unmodeled opcode
    exact absurd (hunmodeled.symm.trans h) Bool.false_ne_true

/-- Settles O22: off the shapes of R83 the engine raises the fault; on them its family has a case, so the engine commits. -/
theorem operandShapeViolationFaults : Obligations.OperandShapeViolationFaults := by
  refine ⟨fun cat s hrun hmodeled hshape => ?_, fun cat s hrun hmodeled hshape => ?_, shapeOk_defaultCatalog⟩
  · rw [stepWith_running hrun, engineRun_of_not_shapeOk hmodeled hshape]
    rfl
  · obtain ⟨r, hfamily, hkeepsRun, hkeepsErr⟩ := continues_of_shapeOk s.fetchKey _ s hshape
    rw [stepWith_running hrun, engineRun_of_runFamily hmodeled hshape hfamily]
    exact ⟨hkeepsRun.trans hrun, hkeepsErr⟩

end Sys2Proof.Machine
end

section
/-! PROOFS. The end of a run (70_reset_and_hazards.md R192; O27). -/

namespace Sys2Proof.Machine

/-! ## Self-jumps -/

/-- The displacement of `JR -2` leads back to its own address, modulo 2^16 (44_jp_jr.md R133). -/
theorem jr_minus_two_target (base : Word) : base + 2 + sext16 0xFE = base := by
  have hback : (2 : Word) + sext16 0xFE = 0 := by decide
  rw [add_assoc, hback, add_zero]

/-- What parks a core: it runs, and at `PC` is one of the three self-jumps. -/
theorem State.parked_iff (s : State) : s.parked = true ↔ s.run = .running ∧
    (s.fetchInstr = .jr_e8 0xFE ∨ s.fetchInstr = .jp_a16 s.pc ∨ (s.fetchInstr = .jp_HL ∧ s.read16 .HL = s.pc)) := by
  simp only [State.parked, State.isRunning, Bool.and_eq_true, Bool.or_eq_true, beq_iff_eq, decide_eq_true_eq,
    or_assoc]

/-- A self-jump commits the `PC` it was fetched at, and nothing else (44_jp_jr.md R130, R132, R133). -/
theorem step_of_parked {s : State} (h : s.parked = true) : ∃ cycles, step s = .next (s.commit s.pc cycles) := by
  obtain ⟨hrun, hinstr⟩ := s.parked_iff.mp h
  rw [step_running hrun]
  obtain hjr | hjp | ⟨hjpHL, hHL⟩ := hinstr
  · have hjump := jrE8_eq 0xFE s
    rw [jr_minus_two_target] at hjump
    exact ⟨12, hjr ▸ hjump⟩
  · exact ⟨16, hjp ▸ jpA16_eq s.pc s⟩
  · have hjump := jpHL_eq s
    rw [hHL] at hjump
    exact ⟨4, hjpHL ▸ hjump⟩

/-- A commit of the same `PC` keeps a core parked: the bytes at `PC` and `HL` are as before. -/
theorem State.parked_commit_pc (s : State) (cycles : Nat) : (s.commit s.pc cycles).parked = s.parked := rfl

/-- Settles O27: the step of a parked core is a commit of the `PC` it has. -/
theorem parkedCoreStaysParked : Obligations.ParkedCoreStaysParked := by
  intro s hparked
  obtain ⟨cycles, hstep⟩ := step_of_parked hparked
  obtain ⟨hrun, -⟩ := s.parked_iff.mp hparked
  exact ⟨_, hstep, (s.parked_commit_pc cycles).trans hparked, rfl, rfl, hrun, rfl, rfl,
    (SameBut.refl [] [] s).commit _ _⟩

end Sys2Proof.Machine
end
